-- ==== Sys2Proof/Word.lean ====
section
/-! DEFINITION. Words of the ring: the widths in which frames, telegrams and table entries are sent (R193). -/

namespace Sys2Proof

/-- One byte of a frame, a telegram or a table entry. -/
abbrev Byte := BitVec 8

/-- A field of two bytes. -/
abbrev Half := BitVec 16

/-- A field of four bytes. -/
abbrev Word := BitVec 32

end Sys2Proof
end

