-- ==== Sys2Proof/Config.lean ====
section
/-! DEFINITION. The FREE VALUES: what the manual leaves open and the machine goes on from. Each is an
opaque constant with no body, so no proof can see what it is, and a statement about the machine holds
whatever it is. Where one is wanted afresh for every frame it takes the frame's number, which is the
model's own counter `State.free`. -/

namespace Sys2Proof

/-- The order in which the ten works of one accepted frame are done, against each other and against the
frame's telegrams, where R2, R40, R59, R84, R105, R132, R143, R161 and R182 allow either of two orders:
the picks from which `Machine.frameOrder` makes the order of the frame of this number.
Log 2. -/
opaque Config.workOrder : Nat → List Nat

/-- Whether a trip entry has a usable value in the frame of this number when its input point reads
CLAMPED: R169 names GOOD, FORCED, STALE and BAD and says nothing of CLAMPED. Second argument: the entry.
Log 3. -/
opaque Config.clampedTripUsable : Nat → Nat → Bool

/-- Whether the cause kind reported for an entry that gives a fail-safe level AND a new edge in the one work
is the edge (R172 names the lowest entry, not which of its two causes).
Arguments: the frame's number and the entry. Log 4. -/
opaque Config.edgeBeforeFailSafe : Nat → Nat → Bool

/-- The line state byte of a LINE_COMMAND reply whose telegram names no line (R90 row 1, R196).
Argument: the line byte of the telegram. Log 5. -/
opaque Config.noLineState : Byte → Byte

/-- The subject of the BANK_SWAPPED event, which R31 does not give.
Argument: the frame's number. Log 6. -/
opaque Config.bankSwappedSubject : Nat → Half

/-- The cycle number that an event or an edge record carries where no frame has been accepted yet, which a command standing alone can
reach (log 1): R192 has the last accepted cycle number absent there. Log 60. -/
opaque Config.cycleBeforeFirst : Half

end Sys2Proof
end

