-- ==== Sys2Proof/Syntax.lean ====
section
/-! DEFINITION. The commands of the part, and the formats they carry: table entries (R198, field by field as
written, whatever the value), sample slots (R194), service telegrams (R196) and, as `Instr`, one constructor for
each row of spec/opcode_table.json. -/

namespace Sys2Proof

/-- The two combustion lines. -/
inductive Line where
  | one
  | two
deriving DecidableEq, Repr

/-- One value for each line. -/
structure PerLine (α : Type) where
  one : α
  two : α
deriving DecidableEq, Repr

/-- Plant time, as the header of a cycle frame carries it: day number and ms of day. -/
structure PlantTime where
  day : Nat
  ms : Nat
deriving DecidableEq, Repr

/-- A sample slot as a station wrote it (R194): raw value, fresh toggle, station fault. -/
structure Slot where
  raw : Half
  toggle : Bool
  fault : Bool
deriving DecidableEq, Repr

/-- The three limit records of dosing (R138). -/
inductive Reagent where
  | urea
  | lime
  | carbon
deriving DecidableEq, Repr

/-! ## Table entries (R198) -/

/-- T0 group 0, ring. -/
structure RingEntry where
  tCyc : Half
  lossTime : Half
deriving DecidableEq, Repr

/-- T0 groups 1 and 2, line combustion (R57, R85). -/
structure CombustionEntry where
  t2sPoint : Byte
  tmin : Half
  hysteresis : Half
  qualHold : Word
  burnoutTime : Half
  steamPoint : Byte
  heatGain : Word
  designHeating : Half
  designFeed : Word
  maxSteam : Half
  o2SetPoint : Half
  limitPoints : Vector Byte 8
  massPerStroke : Half
deriving DecidableEq, Repr

/-- T0 group 3, turbine and header (R142). -/
structure TurbineEntry where
  rated : Word
  specific : Half
  pressurePoint : Byte
  pLow : Half
  band : Half
  fastRamp : Half
  pHigh : Half
  extractionSetPoint : Half
  extractionGain : Half
deriving DecidableEq, Repr

/-- T0 group 4, steam split. -/
structure SplitEntry where
  share : Byte
deriving DecidableEq, Repr

/-- T0 groups 5 and 6, emission common (R104). -/
structure EmissionEntry where
  o2Point : Byte
  o2Basis : Byte
  h2oPoint : Byte
  o2Ref : Half
  o2Ceil : Half
  action : Byte
  release : Byte
  reduction : Byte
  nStop : Byte
deriving DecidableEq, Repr

/-- The part of T0 group 7 that belongs to one line (R131). -/
structure DosingLineEntry where
  noxTarget : Half
  hclTarget : Half
  ureaRatio : Half
  so2Weight : Half
  limeBase : Half
  flowPoint : Byte
  carbonRate : Half
deriving DecidableEq, Repr

/-- T0 group 7, dosing. -/
structure DosingEntry where
  lines : PerLine DosingLineEntry
  limitTime : Half
deriving DecidableEq, Repr

/-- T1, point (R1). -/
structure PointEntry where
  inUse : Byte
  kind : Byte
  slot : Half
  staleLimit : Byte
  rawLow : Half
  rawHigh : Half
  engLow : Word
  engHigh : Word
  rangeLow : Word
  rangeHigh : Word
  depth : Byte
  qualCount : Byte
  invert : Byte
deriving DecidableEq, Repr

/-- T2, output record (R159). -/
structure OutputEntry where
  window : Byte
  source : Byte
  rawLow : Half
  rawHigh : Half
  direction : Byte
  rateLimit : Half
  passive : Half
  pairId : Byte
deriving DecidableEq, Repr

/-- T3, output pair (R166). -/
structure PairEntry where
  inUse : Byte
  memberA : Byte
  memberB : Byte
  interval : Half
deriving DecidableEq, Repr

/-- T4, trip entry (R169). -/
structure TripEntry where
  point : Byte
  trigger : Byte
  failSafe : Byte
  targets : Byte
deriving DecidableEq, Repr

/-- One passive override of a trip group entry: record byte (0 unused, record n as n + 1) and value. -/
structure OverrideEntry where
  record : Byte
  value : Half
deriving DecidableEq, Repr

/-- T5, trip group (R171). -/
structure GroupEntry where
  affected : BitVec 64
  overrides : Vector OverrideEntry 4
  lineEffect : Byte
  turbineEffect : Byte
  feedStop : Byte
  releaseMode : Byte
  releaseDelay : Half
deriving DecidableEq, Repr

/-- T6, loop (R39). -/
structure LoopEntry where
  inService : Byte
  pvPoint : Byte
  spSource : Byte
  spConstant : Word
  kp : Half
  ti : Word
  direction : Byte
  outMin : Half
  outMax : Half
  ffSource : Byte
deriving DecidableEq, Repr

/-- T7, stroke step (R58). -/
structure StepEntry where
  inUse : Byte
  outputs : Byte
  completion : Byte
  limitMask : Byte
  limitValue : Byte
  time : Half
  timeout : Half
  next : Byte
deriving DecidableEq, Repr

/-- T8, schedule block (R141). -/
structure BlockEntry where
  inUse : Byte
  start : Half
  target : Word
  ramp : Half
  extraction : Half
deriving DecidableEq, Repr

/-- T9, emission component (R104). -/
structure ComponentEntry where
  point : Byte
  basis : Byte
  analyzer : Byte
  limit : Half
  minValid : Byte
  uncertainty : Byte
  dailyLimit : Half
  dayMin : Byte
deriving DecidableEq, Repr

/-! ## Service telegrams (R196) -/

/-- The twenty-one telegram kinds with their request payloads, as carried (an argument outside its range is the
owner's to refuse). -/
inductive Request where
  | tableOpen
  | tableWrite (table index : Byte) (entry : List Byte)
  | tableRead (bank table index : Byte)
  | tableCommit (expected : Half)
  | tableAbandon
  | bankSwap
  | pointRead (first last : Half)
  | pointForce (point : Half) (value : Word)
  | pointRelease (point : Half)
  | loopManual (loop : Byte) (value : Half)
  | loopAuto (loop : Byte)
  | lineCommand (line kind : Byte)
  | dispatchOverride (target : Word) (ramp : Half)
  | dispatchClear
  | outputMode (mode : Byte)
  | tripReset (group : Byte)
  | recordRead (line : Byte) (day : Half) (index : Byte)
  | dayRead (line : Byte) (day : Half)
  | ringInfo (line : Byte)
  | statusRead
  | restart
deriving DecidableEq, Repr

/-! ## The commands -/

/-- One constructor for each row of spec/opcode_table.json.

The first three come from outside the part (the supply, the ring, the local timer). The next sixteen name what
comes about inside the handling of a frame; as a command each is that happening by itself, at the run time and
frame last accepted, and it does nothing where its condition does not hold (log 1). The telegram rows are the
telegram taken by its owner by itself, outside a frame's service section: `tag` is echoed in the reply. -/
inductive Instr where
  | powerOn (pins : BitVec 7)
  | cycleFrameArrival (frame : List Byte)
  | ringLossTimerExpiry
  | restartTakesEffect
  | bankSwapTakesEffect
  | pointStale (point : Fin 256) (sample : Slot)
  | binaryQualifiedChange (point : Fin 256) (sample : Slot)
  | strokeCycleStart (line : Line)
  | stepTimerStart (line : Line)
  | stepComplete (line : Line)
  | stepTimeout (line : Line)
  | tempQualified (line : Line)
  | burnoutEnd (line : Line)
  | minuteClose (time : PlantTime)
  | halfhourClose (time : PlantTime)
  | dayClose (time : PlantTime)
  | dosingLimit (line : Line) (reagent : Reagent)
  | tripReleasedDelayed (group : Fin 8)
  | pairIntervalElapsed (record : Fin 64)
  | tableOpen (tag : Byte)
  | tableWrite (tag table index : Byte) (entry : List Byte)
  | tableRead (tag bank table index : Byte)
  | tableCommit (tag : Byte) (expected : Half)
  | tableAbandon (tag : Byte)
  | bankSwap (tag : Byte)
  | pointRead (tag : Byte) (first last : Half)
  | pointForce (tag : Byte) (point : Half) (value : Word)
  | pointRelease (tag : Byte) (point : Half)
  | loopManual (tag loop : Byte) (value : Half)
  | loopAuto (tag loop : Byte)
  | lineCommandStart (tag line : Byte)
  | lineCommandFeedOn (tag line : Byte)
  | lineCommandFeedOff (tag line : Byte)
  | lineCommandStop (tag line : Byte)
  | lineCommandReset (tag line : Byte)
  | resetFeeder (tag line : Byte)
  | dispatchOverride (tag : Byte) (target : Word) (ramp : Half)
  | dispatchClear (tag : Byte)
  | outputMode (tag mode : Byte)
  | tripReset (tag group : Byte)
  | recordRead (tag line : Byte) (day : Half) (index : Byte)
  | dayRead (tag line : Byte) (day : Half)
  | ringInfo (tag line : Byte)
  | statusRead (tag : Byte)
  | restart (tag : Byte)
deriving DecidableEq, Repr

end Sys2Proof
end

