-- ==== Sys2Proof/Decode.lean ====
section
/-! DEFINITION. Reading and writing the byte layouts of chapter 11: fields (R193), telegrams (R196) and table
entries (R198). Reading is total: an absent byte reads 0, and what is no telegram is turned down by name. -/

namespace Sys2Proof

/-! ## Fields, most significant byte first (R193) -/

/-- The byte at an offset. -/
def byteAt (bs : List Byte) (i : Nat) : Byte := bs.getD i 0

/-- The 2-byte field at an offset. -/
def halfAt (bs : List Byte) (i : Nat) : Half := byteAt bs i ++ byteAt bs (i + 1)

/-- The 4-byte field at an offset. -/
def wordAt (bs : List Byte) (i : Nat) : Word := halfAt bs i ++ halfAt bs (i + 2)

/-- The 8-byte field at an offset (the affected outputs of a trip group). -/
def longAt (bs : List Byte) (i : Nat) : BitVec 64 := wordAt bs i ++ wordAt bs (i + 4)

/-- The bytes of a 2-byte field. -/
def halfBytes (x : Half) : List Byte := [x.extractLsb' 8 8, x.extractLsb' 0 8]

/-- The bytes of a 4-byte field. -/
def wordBytes (x : Word) : List Byte := halfBytes (x.extractLsb' 16 16) ++ halfBytes (x.extractLsb' 0 16)

/-- The bytes of an 8-byte field. -/
def longBytes (x : BitVec 64) : List Byte := wordBytes (x.extractLsb' 32 32) ++ wordBytes (x.extractLsb' 0 32)

/-- A number as a reply or report carries it in 1, 2 or 4 bytes. -/
def nat8 (n : Nat) : List Byte := [BitVec.ofNat 8 n]
def nat16 (n : Nat) : List Byte := halfBytes (BitVec.ofNat 16 n)
def nat32 (n : Nat) : List Byte := wordBytes (BitVec.ofNat 32 n)
def int32 (n : Int) : List Byte := wordBytes (BitVec.ofInt 32 n)
def flag8 (b : Bool) : List Byte := [if b then 1 else 0]

/-- The bytes of an entry filled up to its length with zeros: R193 writes the bytes a layout does not name as 0. -/
def padTo (n : Nat) (bs : List Byte) : List Byte := bs ++ List.replicate (n - bs.length) 0

/-! ## Table entries (R198) -/

def decodeRing (b : List Byte) : RingEntry := { tCyc := halfAt b 0, lossTime := halfAt b 2 }
def encodeRing (e : RingEntry) : List Byte := padTo 36 (halfBytes e.tCyc ++ halfBytes e.lossTime)

def decodeCombustion (b : List Byte) : CombustionEntry :=
  { t2sPoint := byteAt b 0, tmin := halfAt b 1, hysteresis := halfAt b 3, qualHold := wordAt b 5,
    burnoutTime := halfAt b 9, steamPoint := byteAt b 11, heatGain := wordAt b 12, designHeating := halfAt b 16,
    designFeed := wordAt b 18, maxSteam := halfAt b 22, o2SetPoint := halfAt b 24,
    limitPoints := #v[byteAt b 26, byteAt b 27, byteAt b 28, byteAt b 29, byteAt b 30, byteAt b 31, byteAt b 32,
      byteAt b 33],
    massPerStroke := halfAt b 34 }
def encodeCombustion (e : CombustionEntry) : List Byte :=
  [e.t2sPoint] ++ halfBytes e.tmin ++ halfBytes e.hysteresis ++ wordBytes e.qualHold ++ halfBytes e.burnoutTime ++
    [e.steamPoint] ++ wordBytes e.heatGain ++ halfBytes e.designHeating ++ wordBytes e.designFeed ++
    halfBytes e.maxSteam ++ halfBytes e.o2SetPoint ++
    [e.limitPoints[0], e.limitPoints[1], e.limitPoints[2], e.limitPoints[3], e.limitPoints[4], e.limitPoints[5],
      e.limitPoints[6], e.limitPoints[7]] ++ halfBytes e.massPerStroke

def decodeTurbine (b : List Byte) : TurbineEntry :=
  { rated := wordAt b 0, specific := halfAt b 4, pressurePoint := byteAt b 6, pLow := halfAt b 7, band := halfAt b 9,
    fastRamp := halfAt b 11, pHigh := halfAt b 13, extractionSetPoint := halfAt b 15, extractionGain := halfAt b 17 }
def encodeTurbine (e : TurbineEntry) : List Byte :=
  padTo 36 (wordBytes e.rated ++ halfBytes e.specific ++ [e.pressurePoint] ++ halfBytes e.pLow ++ halfBytes e.band ++
    halfBytes e.fastRamp ++ halfBytes e.pHigh ++ halfBytes e.extractionSetPoint ++ halfBytes e.extractionGain)

def decodeSplit (b : List Byte) : SplitEntry := { share := byteAt b 0 }
def encodeSplit (e : SplitEntry) : List Byte := padTo 36 [e.share]

def decodeEmission (b : List Byte) : EmissionEntry :=
  { o2Point := byteAt b 0, o2Basis := byteAt b 1, h2oPoint := byteAt b 2, o2Ref := halfAt b 3, o2Ceil := halfAt b 5,
    action := byteAt b 7, release := byteAt b 8, reduction := byteAt b 9, nStop := byteAt b 10 }
def encodeEmission (e : EmissionEntry) : List Byte :=
  padTo 36 ([e.o2Point, e.o2Basis, e.h2oPoint] ++ halfBytes e.o2Ref ++ halfBytes e.o2Ceil ++
    [e.action, e.release, e.reduction, e.nStop])

def decodeDosingLine (b : List Byte) (o : Nat) : DosingLineEntry :=
  { noxTarget := halfAt b o, hclTarget := halfAt b (o + 2), ureaRatio := halfAt b (o + 4),
    so2Weight := halfAt b (o + 6), limeBase := halfAt b (o + 8), flowPoint := byteAt b (o + 10),
    carbonRate := halfAt b (o + 11) }
def encodeDosingLine (e : DosingLineEntry) : List Byte :=
  halfBytes e.noxTarget ++ halfBytes e.hclTarget ++ halfBytes e.ureaRatio ++ halfBytes e.so2Weight ++
    halfBytes e.limeBase ++ [e.flowPoint] ++ halfBytes e.carbonRate

def decodeDosing (b : List Byte) : DosingEntry :=
  { lines := { one := decodeDosingLine b 0, two := decodeDosingLine b 13 }, limitTime := halfAt b 26 }
def encodeDosing (e : DosingEntry) : List Byte :=
  padTo 36 (encodeDosingLine e.lines.one ++ encodeDosingLine e.lines.two ++ halfBytes e.limitTime)

def decodePoint (b : List Byte) : PointEntry :=
  { inUse := byteAt b 0, kind := byteAt b 1, slot := halfAt b 2, staleLimit := byteAt b 4, rawLow := halfAt b 5,
    rawHigh := halfAt b 7, engLow := wordAt b 9, engHigh := wordAt b 13, rangeLow := wordAt b 17,
    rangeHigh := wordAt b 21, depth := byteAt b 25, qualCount := byteAt b 26, invert := byteAt b 27 }
def encodePoint (e : PointEntry) : List Byte :=
  [e.inUse, e.kind] ++ halfBytes e.slot ++ [e.staleLimit] ++ halfBytes e.rawLow ++ halfBytes e.rawHigh ++
    wordBytes e.engLow ++ wordBytes e.engHigh ++ wordBytes e.rangeLow ++ wordBytes e.rangeHigh ++
    [e.depth, e.qualCount, e.invert]

def decodeOutput (b : List Byte) : OutputEntry :=
  { window := byteAt b 0, source := byteAt b 1, rawLow := halfAt b 2, rawHigh := halfAt b 4, direction := byteAt b 6,
    rateLimit := halfAt b 7, passive := halfAt b 9, pairId := byteAt b 11 }
def encodeOutput (e : OutputEntry) : List Byte :=
  [e.window, e.source] ++ halfBytes e.rawLow ++ halfBytes e.rawHigh ++ [e.direction] ++ halfBytes e.rateLimit ++
    halfBytes e.passive ++ [e.pairId]

def decodePair (b : List Byte) : PairEntry :=
  { inUse := byteAt b 0, memberA := byteAt b 1, memberB := byteAt b 2, interval := halfAt b 3 }
def encodePair (e : PairEntry) : List Byte := [e.inUse, e.memberA, e.memberB] ++ halfBytes e.interval

def decodeTrip (b : List Byte) : TripEntry :=
  { point := byteAt b 0, trigger := byteAt b 1, failSafe := byteAt b 2, targets := byteAt b 3 }
def encodeTrip (e : TripEntry) : List Byte := [e.point, e.trigger, e.failSafe, e.targets]

def decodeOverride (b : List Byte) (o : Nat) : OverrideEntry := { record := byteAt b o, value := halfAt b (o + 1) }
def encodeOverride (e : OverrideEntry) : List Byte := [e.record] ++ halfBytes e.value

def decodeGroup (b : List Byte) : GroupEntry :=
  { affected := longAt b 0,
    overrides := #v[decodeOverride b 8, decodeOverride b 11, decodeOverride b 14, decodeOverride b 17],
    lineEffect := byteAt b 20, turbineEffect := byteAt b 21, feedStop := byteAt b 22, releaseMode := byteAt b 23,
    releaseDelay := halfAt b 24 }
def encodeGroup (e : GroupEntry) : List Byte :=
  longBytes e.affected ++ encodeOverride e.overrides[0] ++ encodeOverride e.overrides[1] ++
    encodeOverride e.overrides[2] ++ encodeOverride e.overrides[3] ++
    [e.lineEffect, e.turbineEffect, e.feedStop, e.releaseMode] ++ halfBytes e.releaseDelay

def decodeLoop (b : List Byte) : LoopEntry :=
  { inService := byteAt b 0, pvPoint := byteAt b 1, spSource := byteAt b 2, spConstant := wordAt b 3,
    kp := halfAt b 7, ti := wordAt b 9, direction := byteAt b 13, outMin := halfAt b 14, outMax := halfAt b 16,
    ffSource := byteAt b 18 }
def encodeLoop (e : LoopEntry) : List Byte :=
  [e.inService, e.pvPoint, e.spSource] ++ wordBytes e.spConstant ++ halfBytes e.kp ++ wordBytes e.ti ++
    [e.direction] ++ halfBytes e.outMin ++ halfBytes e.outMax ++ [e.ffSource]

def decodeStep (b : List Byte) : StepEntry :=
  { inUse := byteAt b 0, outputs := byteAt b 1, completion := byteAt b 2, limitMask := byteAt b 3,
    limitValue := byteAt b 4, time := halfAt b 5, timeout := halfAt b 7, next := byteAt b 9 }
def encodeStep (e : StepEntry) : List Byte :=
  [e.inUse, e.outputs, e.completion, e.limitMask, e.limitValue] ++ halfBytes e.time ++ halfBytes e.timeout ++ [e.next]

def decodeBlock (b : List Byte) : BlockEntry :=
  { inUse := byteAt b 0, start := halfAt b 1, target := wordAt b 3, ramp := halfAt b 7, extraction := halfAt b 9 }
def encodeBlock (e : BlockEntry) : List Byte :=
  [e.inUse] ++ halfBytes e.start ++ wordBytes e.target ++ halfBytes e.ramp ++ halfBytes e.extraction

def decodeComponent (b : List Byte) : ComponentEntry :=
  { point := byteAt b 0, basis := byteAt b 1, analyzer := byteAt b 2, limit := halfAt b 3, minValid := byteAt b 5,
    uncertainty := byteAt b 6, dailyLimit := halfAt b 7, dayMin := byteAt b 9 }
def encodeComponent (e : ComponentEntry) : List Byte :=
  [e.point, e.basis, e.analyzer] ++ halfBytes e.limit ++ [e.minValid, e.uncertainty] ++ halfBytes e.dailyLimit ++
    [e.dayMin]

/-- Entry length of each table in bytes (R198). -/
def entryLength : Nat → Nat
  | 0 => 36 | 1 => 28 | 2 => 12 | 3 => 5 | 4 => 4 | 5 => 26 | 6 => 19 | 7 => 10 | 8 => 11 | 9 => 10
  | _ => 0

/-- Number of entries of each table (chapter 2, section 2.1). -/
def entryCount : Nat → Nat
  | 0 => 8 | 1 => 256 | 2 => 64 | 3 => 16 | 4 => 32 | 5 => 8 | 6 => 12 | 7 => 32 | 8 => 48 | 9 => 12
  | _ => 0

/-! ## Service telegrams (R196) -/

/-- A telegram as it stands in the service section. -/
structure Telegram where
  address : Byte
  kind : Byte
  tag : Byte
  payload : List Byte
deriving DecidableEq, Repr

/-- What the RGI finds of a taken telegram before its owner sees it (R183). -/
inductive Checked where
  /-- the kind is not one of the twenty-one -/
  | unknownKind
  /-- the payload length is not that of the kind -/
  | badLength
  | request (r : Request)
deriving DecidableEq, Repr

/-- The request a telegram of the given kind and payload carries (R183, R196). -/
def decodeRequest (kind : Byte) (p : List Byte) : Checked :=
  let fixed (n : Nat) (r : Request) : Checked := if p.length = n then .request r else .badLength
  match kind.toNat with
  | 1 => fixed 0 .tableOpen
  | 2 => if 2 ≤ p.length ∧ p.length ≤ 40 then .request (.tableWrite (byteAt p 0) (byteAt p 1) (p.drop 2)) else .badLength
  | 3 => fixed 3 (.tableRead (byteAt p 0) (byteAt p 1) (byteAt p 2))
  | 4 => fixed 2 (.tableCommit (halfAt p 0))
  | 5 => fixed 0 .tableAbandon
  | 6 => fixed 0 .bankSwap
  | 7 => fixed 4 (.pointRead (halfAt p 0) (halfAt p 2))
  | 8 => fixed 6 (.pointForce (halfAt p 0) (wordAt p 2))
  | 9 => fixed 2 (.pointRelease (halfAt p 0))
  | 10 => fixed 3 (.loopManual (byteAt p 0) (halfAt p 1))
  | 11 => fixed 1 (.loopAuto (byteAt p 0))
  | 12 => fixed 2 (.lineCommand (byteAt p 0) (byteAt p 1))
  | 13 => fixed 6 (.dispatchOverride (wordAt p 0) (halfAt p 4))
  | 14 => fixed 0 .dispatchClear
  | 15 => fixed 1 (.outputMode (byteAt p 0))
  | 16 => fixed 1 (.tripReset (byteAt p 0))
  | 17 => fixed 4 (.recordRead (byteAt p 0) (halfAt p 1) (byteAt p 3))
  | 18 => fixed 3 (.dayRead (byteAt p 0) (halfAt p 1))
  | 19 => fixed 1 (.ringInfo (byteAt p 0))
  | 20 => fixed 0 .statusRead
  | 21 => fixed 0 .restart
  | _ => .unknownKind

/-- The kind code of a request (R196). -/
def requestKind : Request → Byte
  | .tableOpen => 1 | .tableWrite _ _ _ => 2 | .tableRead _ _ _ => 3 | .tableCommit _ => 4 | .tableAbandon => 5
  | .bankSwap => 6 | .pointRead _ _ => 7 | .pointForce _ _ => 8 | .pointRelease _ => 9 | .loopManual _ _ => 10
  | .loopAuto _ => 11 | .lineCommand _ _ => 12 | .dispatchOverride _ _ => 13 | .dispatchClear => 14
  | .outputMode _ => 15 | .tripReset _ => 16 | .recordRead _ _ _ => 17 | .dayRead _ _ => 18 | .ringInfo _ => 19
  | .statusRead => 20 | .restart => 21

/-- The request payload (R196). -/
def requestPayload : Request → List Byte
  | .tableOpen => []
  | .tableWrite table index entry => [table, index] ++ entry
  | .tableRead bank table index => [bank, table, index]
  | .tableCommit expected => halfBytes expected
  | .tableAbandon => []
  | .bankSwap => []
  | .pointRead first last => halfBytes first ++ halfBytes last
  | .pointForce point value => halfBytes point ++ wordBytes value
  | .pointRelease point => halfBytes point
  | .loopManual loop value => [loop] ++ halfBytes value
  | .loopAuto loop => [loop]
  | .lineCommand line kind => [line, kind]
  | .dispatchOverride target ramp => wordBytes target ++ halfBytes ramp
  | .dispatchClear => []
  | .outputMode mode => [mode]
  | .tripReset group => [group]
  | .recordRead line day index => [line] ++ halfBytes day ++ [index]
  | .dayRead line day => [line] ++ halfBytes day
  | .ringInfo line => [line]
  | .statusRead => []
  | .restart => []

/-- A telegram as a station sends it: header and payload (R196). -/
def encodeTelegram (t : Telegram) : List Byte :=
  [t.address, t.kind, t.tag, BitVec.ofNat 8 t.payload.length] ++ t.payload

/-- One finding of the walk through a service section (R182). -/
inductive WalkItem where
  | telegram (t : Telegram)
  /-- a telegram that would run past the end of the section -/
  | truncated
deriving DecidableEq, Repr

/-- The walk through a service section, with at most `n` telegrams (R182). -/
def walkTelegrams : Nat → List Byte → List WalkItem
  | _, [] => []
  | n + 1, a :: k :: t :: l :: rest =>
    if l.toNat ≤ rest.length then
      .telegram { address := a, kind := k, tag := t, payload := rest.take l.toNat } ::
        walkTelegrams n (rest.drop l.toNat)
    else [.truncated]
  | _, _ => [.truncated]

/-- The walk through a whole section: no telegram is shorter than its 4-byte header. -/
def walkSection (bs : List Byte) : List WalkItem := walkTelegrams (bs.length / 4 + 1) bs

/-- The command that a word spells by the bits of spec/opcode_table.json: its rows give no bits, so none. -/
def decodeTableWord (_nbits _w : Nat) : Option Instr := none

end Sys2Proof
end

