-- ==== Sys2Proof/Machine/State.lean ====
section
/-! DEFINITION. The state of the part as plain data: everything the manual gives each of the ten blocks, the part's
two outputs (the frame forwarded last, the replies given last), the queue of waiting commands and the model's own
counter for free values. A value that is published and can differ from the block's own is held apart from it. -/

namespace Sys2Proof
namespace Machine

/-! ## Named values -/

/-- Device states (R34). -/
inductive DeviceState where
  | config
  | run
deriving DecidableEq, Repr

/-- Ring states (R180). -/
inductive RingState where
  | starting
  | synced
  | lost
deriving DecidableEq, Repr

/-- Shadow states (section 2.2). -/
inductive ShadowState where
  | closed
  | opened
  | committed
  | swapPending
deriving DecidableEq, Repr

/-- The two banks. -/
inductive BankId where
  | a
  | b
deriving DecidableEq, Repr

/-- Reset causes (R186): POWER_ON, or POWER_ON and RESTART. -/
inductive ResetCause where
  | powerOn
  | powerOnAndRestart
deriving DecidableEq, Repr

/-- Reply status codes (About file; R196). -/
inductive Status where
  | done
  | refusedState
  | refusedRange
  | unknownKind
  | unknownTable
  | notOpen
  | collision
  | countMismatch
  | inconsistent
  | notReady
  | busy
deriving DecidableEq, Repr

/-- Published quality of a point (R3). -/
inductive Quality where
  | good
  | clamped
  | stale
  | bad
  | forced
deriving DecidableEq, Repr

/-- Working condition of a point, from its own slot (section 1.2). -/
inductive Condition where
  | good
  | clamped
  | stale
  | bad
deriving DecidableEq, Repr

/-- Event kinds (R188). -/
inductive EventKind where
  | tripTaken
  | tripReleased
  | lineState
  | seqFault
  | emissionExceed
  | emissionStop
  | halfhourClosed
  | dayClosed
  | pointQuality
  | bankSwapped
  | ringLost
  | ringRestored
  | timeJump
  | pressureLimit
  | dosingLimit
  | pairConflict
deriving DecidableEq, Repr

/-- Operator mode of a loop (section 3.3). -/
inductive OperatorMode where
  | auto
  | manual
deriving DecidableEq, Repr

/-- Effective mode of a loop (R45). -/
inductive EffectiveMode where
  | off
  | track
  | hold
  | manual
  | auto
deriving DecidableEq, Repr

/-- Sequencer states (section 4.3). -/
inductive SeqState where
  | stopped
  | pause
  | stepping
  | held
  | fault
deriving DecidableEq, Repr

/-- Kinds of a pause base (R62). -/
inductive PauseKind where
  | entry
  | cycle
  | release
deriving DecidableEq, Repr

/-- Line states (R95). -/
inductive LineState where
  | off
  | start
  | waste
  | inhibit
  | burnout
  | tripped
deriving DecidableEq, Repr

/-- Causes of line transitions (R95). -/
inductive LineCause where
  | reset
  | cmdStart
  | cmdFeedOn
  | cmdFeedOff
  | cmdStop
  | cmdReset
  | tempLow
  | tempQualified
  | emissionStop
  | burnoutEnd
  | trip
deriving DecidableEq, Repr

/-- Component flags of the emission unit (R108). -/
inductive SampleFlag where
  | maintHold
  | o2High
  | overRange
  | inputInvalid
  | valid
deriving DecidableEq, Repr

/-- Status of a minute, a half-hour or a day, per component (R111, R116, R125; coded as R199). -/
inductive AvgStatus where
  | notOperating
  | valid
  | invalid
deriving DecidableEq, Repr

/-- Direction of a ramp or rate accumulator (R150, R164). -/
inductive RampDir where
  | none
  | up
  | down
deriving DecidableEq, Repr

/-- Output modes (R163). -/
inductive OutputMode where
  | normal
  | hold
  | passive
deriving DecidableEq, Repr

/-! ## Table bank store -/

/-- One complete set of the ten tables (section 2.1). -/
structure Bank where
  ring : RingEntry
  combustion : PerLine CombustionEntry
  turbine : TurbineEntry
  split : SplitEntry
  emission : PerLine EmissionEntry
  dosing : DosingEntry
  points : Vector PointEntry 256
  outputs : Vector OutputEntry 64
  pairs : Vector PairEntry 16
  trips : Vector TripEntry 32
  groups : Vector GroupEntry 8
  loops : Vector LoopEntry 12
  steps : Vector StepEntry 32
  blocks : Vector BlockEntry 48
  components : Vector ComponentEntry 12
deriving DecidableEq, Repr

/-- The table bank store (R20, R22, R34). -/
structure Tbs where
  bankA : Bank
  bankB : Bank
  active : BankId
  bankValid : Bool
  device : DeviceState
  shadow : ShadowState
  marks : Vector Bool 488
  written : Nat
deriving DecidableEq, Repr

/-! ## Ring interface -/

/-- An event record (R188). -/
structure Event where
  kind : EventKind
  high : Bool
  cycle : Nat
  plant : PlantTime
  subject : Nat
  detail : Nat
deriving DecidableEq, Repr

/-- The ring interface (chapter 10). The queue is kept as its two orders (R189), each oldest first. `plant` and
`advance` are the plant time and the run time advance of the last accepted frame. `timer` is the ring-loss time
the timer runs against, absent while it does not run. -/
structure Rgi where
  address : Nat
  ring : RingState
  lastCycle : Option Nat
  plant : PlantTime
  runTime : Nat
  advance : Nat
  timer : Option Nat
  restartPending : Bool
  high : List Event
  normal : List Event
  overflow : Bool
  truncated : Bool
  resetCause : ResetCause
deriving DecidableEq, Repr

/-! ## Point intake unit -/

/-- The edge record of a BINARY point (R12); `rising` is the direction. -/
structure EdgeRecord where
  rising : Bool
  cycle : Nat
  runTime : Nat
deriving DecidableEq, Repr

/-- The published part of a point (section 1.2). -/
structure PointOut where
  value : Int
  quality : Quality
  age : Nat
  edge : Option EdgeRecord
  newEdge : Bool
deriving DecidableEq, Repr

/-- The working part of a point (section 1.2). `edge` is the last edge, which the next image publishes; `released`
says that a force has been removed since the last evaluated frame (R9). -/
structure PointWork where
  condition : Condition
  toggle : Option Bool
  age : Nat
  history : List Int
  qualified : Option Bool
  run : Nat
  force : Option Int
  edge : Option EdgeRecord
  released : Bool
deriving DecidableEq, Repr

/-- The point intake unit. -/
structure Piu where
  work : Vector PointWork 256
  image : Vector PointOut 256
deriving DecidableEq, Repr

/-! ## Loop engine -/

/-- A loop record (section 3.3). -/
structure LoopRecord where
  operator : OperatorMode
  mode : EffectiveMode
  u : Int
  r : Int
  ePrev : Option Int
  published : Int
deriving DecidableEq, Repr

/-- The loop engine. -/
structure Lpe where
  loops : Vector LoopRecord 12
deriving DecidableEq, Repr

/-! ## Grate sequencer -/

/-- What a grate sequencer publishes (R59). Bit j of `demands` is hydraulic output j, in the order of R198. -/
structure SeqRecord where
  state : SeqState
  demands : Byte
  cycleCount : Half
  feed : Nat
deriving DecidableEq, Repr

/-- A grate sequencer (section 4.3). -/
structure Gsq where
  state : SeqState
  step : Option (Nat × StepEntry)
  timerStart : Option Nat
  cycleStart : Nat
  pauseBase : Option (Nat × PauseKind)
  demands : Byte
  current : Option Nat
  previous : Option Nat
  cycleCount : Half
  feed : Nat
  pub : SeqRecord
deriving DecidableEq, Repr

/-! ## Line supervisor -/

/-- The line record and the set points published beside it (R84). -/
structure LineRecord where
  state : LineState
  cause : LineCause
  permission : Bool
  strokes : Nat
  heating : Nat
  burner : Bool
  operating : Bool
  available : Nat
  steamSetPoint : Nat
  o2SetPoint : Nat
deriving DecidableEq, Repr

/-- A line supervisor. `qualified` is the temperature qualification its last work formed (R92). -/
structure Lsv where
  state : LineState
  cause : LineCause
  bandSince : Option Nat
  qualified : Bool
  burnoutStart : Option Nat
  lastCount : Half
  samples : List Nat
  pub : LineRecord
deriving DecidableEq, Repr

/-! ## Emission averaging unit -/

/-- A minute accumulator of one component (R110). -/
structure MinuteAcc where
  sum : Nat
  valid : Nat
  operating : Nat
  nonOperating : Nat
deriving DecidableEq, Repr

/-- A status with its average (0 where the status is not VALID). -/
structure StatusAvg where
  status : AvgStatus
  average : Nat
deriving DecidableEq, Repr

/-- The result of a closed or skipped minute (R111). -/
structure MinuteSlot where
  notOperating : Bool
  comps : Vector StatusAvg 6
deriving DecidableEq, Repr

/-- The latched half-hour parameters of one component (R115). -/
structure CompLatch where
  limit : Nat
  minValid : Nat
  uncertainty : Nat
deriving DecidableEq, Repr

/-- The half-hour latch of a line (R115). -/
structure HalfLatch where
  o2Ref : Nat
  o2Ceil : Nat
  comps : Vector CompLatch 6
deriving DecidableEq, Repr

/-- The latched day parameters of one component (R124). -/
structure DayCompLatch where
  limit : Nat
  dayMin : Nat
deriving DecidableEq, Repr

/-- The day accumulator of one component (R124). -/
structure DayAcc where
  sum : Nat
  valid : Nat
  counted : Nat
deriving DecidableEq, Repr

/-- One component of a half-hour record (R116). -/
structure HalfComp where
  status : AvgStatus
  average : Nat
  validated : Nat
  exceed : Bool
  limit : Nat
deriving DecidableEq, Repr

/-- A half-hour record of a line's ring (R116). -/
structure HalfRecord where
  day : Nat
  index : Nat
  comps : Vector HalfComp 6
  operatingMinutes : Nat
deriving DecidableEq, Repr

/-- One component of a day record (R125). -/
structure DayComp where
  status : AvgStatus
  mean : Nat
  exceed : Bool
  limit : Nat
  validCount : Nat
deriving DecidableEq, Repr

/-- A day record of a line's day ring (R125). -/
structure DayRecord where
  day : Nat
  comps : Vector DayComp 6
deriving DecidableEq, Repr

/-- The instantaneous values of one component (R108), published at each work. -/
structure Instant where
  value : Nat
  flag : SampleFlag
  lastValid : Nat
deriving DecidableEq, Repr

/-- What the EAU publishes of a line beside the instantaneous values (R105). -/
structure EauPub where
  reduction : Bool
  percent : Nat
  stop : Bool
deriving DecidableEq, Repr

/-- The EAU record of one line (chapter 6). `openMinute` is absolute: day number × 1,440 plus minute of day. -/
structure EauLine where
  openMinute : Option Nat
  discard : Bool
  acc : Vector MinuteAcc 6
  slots : Vector (Option MinuteSlot) 30
  latch : Option HalfLatch
  dayLatch : Option (Vector DayCompLatch 6)
  dayAcc : Vector DayAcc 6
  halves : List HalfRecord
  days : List DayRecord
  run : Nat
  stop : Bool
  reduction : Bool
  inst : Vector Instant 6
  pub : EauPub
deriving DecidableEq, Repr

/-- The emission averaging unit. The last plant time, in ms from day 0, is one for both lines: both are worked on
the same frames. -/
structure Eau where
  lastPlant : Option Nat
  lines : PerLine EauLine
deriving DecidableEq, Repr

/-! ## Reagent dosing unit -/

/-- A limit record (R138). -/
structure LimitRecord where
  since : Option Nat
  reported : Bool
deriving DecidableEq, Repr

/-- The dosing record of one line (section 7.2); `lastSteam` is the steam flow last used for the lime term. -/
structure RduLine where
  ureaSet : Nat
  limeSet : Nat
  ureaTerm : Nat
  limeTerm : Nat
  carbon : Nat
  urea : LimitRecord
  lime : LimitRecord
  carbonLimit : LimitRecord
  lastSteam : Nat
deriving DecidableEq, Repr

/-- The reagent dosing unit. -/
structure Rdu where
  lines : PerLine RduLine
deriving DecidableEq, Repr

/-! ## Steam and dispatch unit -/

/-- The dispatch record (section 8.2), with the targets of the last work that the dispatch status reports, and the
published source, set points and term (R143). -/
structure Sdu where
  block : Option Nat
  override : Option (Nat × Nat)
  setPoint : Nat
  acc : Nat
  dir : RampDir
  limiting : Bool
  tripHold : Bool
  capability : Nat
  target : Nat
  effective : Nat
  total : Nat
  demand : PerLine Nat
  unmet : Nat
  pubSource : Nat
  pubBypassSet : Nat
  pubExtractionSet : Nat
  pubExtractionTerm : Nat
deriving DecidableEq, Repr

/-! ## Output and trip unit -/

/-- The working part of an output record (R162, R164, R166). -/
structure OutRecord where
  last : Option Nat
  acc : Nat
  dir : RampDir
  zeroSince : Option Nat
deriving DecidableEq, Repr

/-- What the OTU publishes of an output record (R161). -/
structure OutPub where
  source : Nat
  written : Nat
  back : Nat
  override : Bool
  pending : Bool
deriving DecidableEq, Repr

/-- A trip group (R171); `level` says whether a level cause stood in the last work (R174). -/
structure TripGroup where
  tripped : Bool
  absentSince : Option Nat
  level : Bool
deriving DecidableEq, Repr

/-- The working part of a trip entry (R170): the edge record last taken, the groups in which an edge of it is
latched (bit g for group g), and whether the next work takes the present edge record without acting on it. -/
structure TripWork where
  lastEdge : Option EdgeRecord
  latches : Byte
  takePresent : Bool
deriving DecidableEq, Repr

/-- One slot of the output window as last written: raw value after direction, and valid mark. -/
structure WindowSlot where
  raw : Nat
  valid : Bool
deriving DecidableEq, Repr

/-- The output and trip unit. `firstWork` says that no work has been done since power-on or restart (R176). -/
structure Otu where
  mode : OutputMode
  records : Vector OutRecord 64
  pub : Vector OutPub 64
  conflict : Vector Bool 16
  trips : Vector TripWork 32
  groups : Vector TripGroup 8
  pubGroups : Vector Bool 8
  firstWork : Bool
  window : Vector WindowSlot 64
deriving DecidableEq, Repr

/-! ## The whole state -/

/-- A reply as it answers a telegram (R185). -/
structure Reply where
  kind : Byte
  tag : Byte
  status : Status
  payload : List Byte
deriving DecidableEq, Repr

/-- The state of the part. `pending` is the queue of waiting commands, first in, first out; `replies` are the
replies given by the last frame or telegram command and `downstream` is the frame last forwarded; `free` counts
the accepted frames for which free values have been drawn (the model's own). -/
structure State where
  pending : List Instr
  rgi : Rgi
  tbs : Tbs
  piu : Piu
  lpe : Lpe
  gsq : PerLine Gsq
  lsv : PerLine Lsv
  eau : Eau
  rdu : Rdu
  sdu : Sdu
  otu : Otu
  replies : List Reply
  downstream : Option (List Byte)
  free : Nat
deriving DecidableEq, Repr

/-- No command of the part stops it: the manual describes no state in which it ends its work. -/
inductive Fault where
deriving DecidableEq, Repr

/-- Why a command has no meaning. -/
inductive Refusal where
  /-- raised by `exec` alone, for a command the model gives no meaning yet; safe. No arm answers with it. -/
  | notModelled (mnemonic : String)
deriving DecidableEq, Repr

/-! ## Values at power-on -/

/-- Empty entries: every field 0 (R21). -/
def emptyCombustion : CombustionEntry :=
  { t2sPoint := 0, tmin := 0, hysteresis := 0, qualHold := 0, burnoutTime := 0, steamPoint := 0, heatGain := 0,
    designHeating := 0, designFeed := 0, maxSteam := 0, o2SetPoint := 0, limitPoints := Vector.replicate 8 0,
    massPerStroke := 0 }
def emptyEmission : EmissionEntry :=
  { o2Point := 0, o2Basis := 0, h2oPoint := 0, o2Ref := 0, o2Ceil := 0, action := 0, release := 0, reduction := 0,
    nStop := 0 }
def emptyDosingLine : DosingLineEntry :=
  { noxTarget := 0, hclTarget := 0, ureaRatio := 0, so2Weight := 0, limeBase := 0, flowPoint := 0, carbonRate := 0 }
def emptyPoint : PointEntry :=
  { inUse := 0, kind := 0, slot := 0, staleLimit := 0, rawLow := 0, rawHigh := 0, engLow := 0, engHigh := 0,
    rangeLow := 0, rangeHigh := 0, depth := 0, qualCount := 0, invert := 0 }
def emptyOutput : OutputEntry :=
  { window := 0, source := 0, rawLow := 0, rawHigh := 0, direction := 0, rateLimit := 0, passive := 0, pairId := 0 }
def emptyGroup : GroupEntry :=
  { affected := 0, overrides := Vector.replicate 4 { record := 0, value := 0 }, lineEffect := 0, turbineEffect := 0,
    feedStop := 0, releaseMode := 0, releaseDelay := 0 }
def emptyLoop : LoopEntry :=
  { inService := 0, pvPoint := 0, spSource := 0, spConstant := 0, kp := 0, ti := 0, direction := 0, outMin := 0,
    outMax := 0, ffSource := 0 }
def emptyStep : StepEntry :=
  { inUse := 0, outputs := 0, completion := 0, limitMask := 0, limitValue := 0, time := 0, timeout := 0, next := 0 }
def emptyComponent : ComponentEntry :=
  { point := 0, basis := 0, analyzer := 0, limit := 0, minValid := 0, uncertainty := 0, dailyLimit := 0, dayMin := 0 }

/-- A bank none of whose entries has been written (R21, R37). -/
def emptyBank : Bank :=
  { ring := { tCyc := 0, lossTime := 0 }
    combustion := { one := emptyCombustion, two := emptyCombustion }
    turbine :=
      { rated := 0, specific := 0, pressurePoint := 0, pLow := 0, band := 0, fastRamp := 0, pHigh := 0,
        extractionSetPoint := 0, extractionGain := 0 }
    split := { share := 0 }
    emission := { one := emptyEmission, two := emptyEmission }
    dosing := { lines := { one := emptyDosingLine, two := emptyDosingLine }, limitTime := 0 }
    points := Vector.replicate 256 emptyPoint
    outputs := Vector.replicate 64 emptyOutput
    pairs := Vector.replicate 16 { inUse := 0, memberA := 0, memberB := 0, interval := 0 }
    trips := Vector.replicate 32 { point := 0, trigger := 0, failSafe := 0, targets := 0 }
    groups := Vector.replicate 8 emptyGroup
    loops := Vector.replicate 12 emptyLoop
    steps := Vector.replicate 32 emptyStep
    blocks := Vector.replicate 48 { inUse := 0, start := 0, target := 0, ramp := 0, extraction := 0 }
    components := Vector.replicate 12 emptyComponent }

/-- The table bank store at power-on (R37). -/
def tbsReset : Tbs :=
  { bankA := emptyBank, bankB := emptyBank, active := .a, bankValid := false, device := .config, shadow := .closed,
    marks := Vector.replicate 488 false, written := 0 }

/-- The ring interface at power-on (R192), with ring address 1 standing for pins nobody has read (log 7). -/
def rgiReset : Rgi :=
  { address := 1, ring := .starting, lastCycle := none, plant := { day := 0, ms := 0 }, runTime := 0, advance := 0,
    timer := none, restartPending := false, high := [], normal := [], overflow := false, truncated := false,
    resetCause := .powerOn }

/-- A point not in use, as published (R4). -/
def pointNotInUse : PointOut := { value := 0, quality := .bad, age := 0, edge := none, newEdge := false }

/-- An empty working part (R4). Its condition is GOOD: R14 takes that as the one before the first. -/
def pointWorkEmpty : PointWork :=
  { condition := .good, toggle := none, age := 0, history := [], qualified := none, run := 0, force := none,
    edge := none, released := false }

/-- The point intake unit at power-on and restart (R19). -/
def piuReset : Piu :=
  { work := Vector.replicate 256 pointWorkEmpty, image := Vector.replicate 256 pointNotInUse }

/-- The loop engine at power-on (R54). -/
def lpeReset : Lpe :=
  { loops := Vector.replicate 12 { operator := .auto, mode := .auto, u := 0, r := 0, ePrev := none, published := 0 } }

/-- A grate sequencer at power-on and restart (R83). -/
def gsqReset : Gsq :=
  { state := .stopped, step := none, timerStart := none, cycleStart := 0, pauseBase := none, demands := 0,
    current := none, previous := none, cycleCount := 0, feed := 0,
    pub := { state := .stopped, demands := 0, cycleCount := 0, feed := 0 } }

/-- A line supervisor at power-on, and at restart but for the heating value (R103). -/
def lsvReset : Lsv :=
  { state := .off, cause := .reset, bandSince := none, qualified := false, burnoutStart := none, lastCount := 0,
    samples := [],
    pub := { state := .off, cause := .reset, permission := false, strokes := 0, heating := 0, burner := false,
             operating := false, available := 0, steamSetPoint := 0, o2SetPoint := 0 } }

/-- Instantaneous values at power-on and restart (R128, R129). -/
def instReset : Vector Instant 6 := Vector.replicate 6 { value := 0, flag := .inputInvalid, lastValid := 0 }

/-- Empty minute accumulators. -/
def accEmpty : Vector MinuteAcc 6 := Vector.replicate 6 { sum := 0, valid := 0, operating := 0, nonOperating := 0 }

/-- An empty day accumulator. -/
def dayAccEmpty : Vector DayAcc 6 := Vector.replicate 6 { sum := 0, valid := 0, counted := 0 }

/-- The EAU record of a line at power-on (R128). -/
def eauLineReset : EauLine :=
  { openMinute := none, discard := false, acc := accEmpty, slots := Vector.replicate 30 none, latch := none,
    dayLatch := none, dayAcc := dayAccEmpty, halves := [], days := [], run := 0, stop := false, reduction := false,
    inst := instReset, pub := { reduction := false, percent := 0, stop := false } }

/-- A dosing record at power-on and restart (R140). -/
def rduLineReset : RduLine :=
  { ureaSet := 0, limeSet := 0, ureaTerm := 0, limeTerm := 0, carbon := 0, urea := { since := none, reported := false },
    lime := { since := none, reported := false }, carbonLimit := { since := none, reported := false }, lastSteam := 0 }

/-- The steam and dispatch unit at power-on and restart (R158). -/
def sduReset : Sdu :=
  { block := none, override := none, setPoint := 0, acc := 0, dir := .none, limiting := false, tripHold := false,
    capability := 0, target := 0, effective := 0, total := 0, demand := { one := 0, two := 0 }, unmet := 0,
    pubSource := 0, pubBypassSet := 0, pubExtractionSet := 0, pubExtractionTerm := 0 }

/-- The output and trip unit at power-on and restart (R176). R176 gives a zero-since from the first work on; that a record has
none before it is the model's choice (log 25). -/
def otuReset : Otu :=
  { mode := .normal
    records := Vector.replicate 64 { last := none, acc := 0, dir := .none, zeroSince := none }
    pub := Vector.replicate 64 { source := 0, written := 0, back := 0, override := false, pending := false }
    conflict := Vector.replicate 16 false
    trips := Vector.replicate 32 { lastEdge := none, latches := 0, takePresent := false }
    groups := Vector.replicate 8 { tripped := false, absentSince := none, level := false }
    pubGroups := Vector.replicate 8 false
    firstWork := true
    window := Vector.replicate 64 { raw := 0, valid := false } }

/-- The part right after power-on: CONFIG, empty banks, every block as its chapter gives. -/
def State.reset : State :=
  { pending := []
    rgi := rgiReset
    tbs := tbsReset
    piu := piuReset
    lpe := lpeReset
    gsq := { one := gsqReset, two := gsqReset }
    lsv := { one := lsvReset, two := lsvReset }
    eau := { lastPlant := none, lines := { one := eauLineReset, two := eauLineReset } }
    rdu := { lines := { one := rduLineReset, two := rduLineReset } }
    sdu := sduReset
    otu := otuReset
    replies := []
    downstream := none
    free := 0 }

end Machine
end Sys2Proof
end

