-- ==== Sys2Proof/Machine/Ops.lean ====
section
/-! DEFINITION. The named operations every block shares: rounding and limiting, access by line, the updates of the
state, raising an event (R189, R190), the banks (R20), and answering a telegram by itself. -/

namespace Sys2Proof

/-- The value of a line. -/
def PerLine.get {α : Type} (p : PerLine α) : Line → α
  | .one => p.one
  | .two => p.two

/-- The value of a line replaced. -/
def PerLine.set {α : Type} (p : PerLine α) (l : Line) (x : α) : PerLine α :=
  match l with
  | .one => { p with one := x }
  | .two => { p with two := x }

/-- The number of a line, as subjects of events and telegrams carry it. -/
def Line.number : Line → Nat
  | .one => 1
  | .two => 2

/-- 0 for line 1 and 1 for line 2: the place of a line in tables and source codes laid out line by line. -/
def Line.offset : Line → Nat
  | .one => 0
  | .two => 1

/-- The line a telegram's line byte names, if it names one. -/
def lineOf (b : Byte) : Option Line :=
  if b = 1 then some .one else if b = 2 then some .two else none

namespace Machine

/-! ## Rounding and limiting -/

/-- n ÷ d rounded half up, of numbers not below 0. -/
def roundHalfUp (n d : Nat) : Nat := (2 * n + d) / (2 * d)

/-- n ÷ d rounded half away from zero (R7, R9). -/
def roundHalfAway (n d : Int) : Int :=
  n.sign * d.sign * ((2 * n.natAbs + d.natAbs) / (2 * d.natAbs) : Nat)

/-- A value taken at the nearest end of its range (R21). -/
def clampNat (lo hi x : Nat) : Nat := if hi < x then hi else if x < lo then lo else x

/-- An integer limited to a range: above the high end becomes the high end, else below the low end the low end. -/
def clampInt (lo hi x : Int) : Int := if hi < x then hi else if x < lo then lo else x

/-- The values of a table of n entries, computed index by index. -/
def tabulate {α : Type} (n : Nat) (f : Fin n → α) : Vector α n := Vector.ofFn f

/-! ## Updates of the state -/

def State.withRgi (s : State) (x : Rgi) : State := { s with rgi := x }
def State.withTbs (s : State) (x : Tbs) : State := { s with tbs := x }
def State.withPiu (s : State) (x : Piu) : State := { s with piu := x }
def State.withLpe (s : State) (x : Lpe) : State := { s with lpe := x }
def State.withGsq (s : State) (l : Line) (x : Gsq) : State := { s with gsq := s.gsq.set l x }
def State.withLsv (s : State) (l : Line) (x : Lsv) : State := { s with lsv := s.lsv.set l x }
def State.withEau (s : State) (x : Eau) : State := { s with eau := x }
def State.withRdu (s : State) (x : Rdu) : State := { s with rdu := x }
def State.withSdu (s : State) (x : Sdu) : State := { s with sdu := x }
def State.withOtu (s : State) (x : Otu) : State := { s with otu := x }
def State.withReplies (s : State) (x : List Reply) : State := { s with replies := x }
def State.withDownstream (s : State) (x : List Byte) : State := { s with downstream := some x }
def State.drawFree (s : State) : State := { s with free := s.free + 1 }
def State.withPending (s : State) (x : List Instr) : State := { s with pending := x }

/-! ## Events -/

/-- Number of events queued (R186). -/
def queued (r : Rgi) : Nat := r.high.length + r.normal.length

/-- An event joins the newest end of its priority (R189). -/
def joinQueue (r : Rgi) (e : Event) : Rgi :=
  if e.high then { r with high := r.high ++ [e] } else { r with normal := r.normal ++ [e] }

/-- An event enters the queue of 64 (R189, R190). -/
def enqueue (r : Rgi) (e : Event) : Rgi :=
  if queued r < 64 then joinQueue r e
  else if e.high ∧ r.normal ≠ [] then
    { r with overflow := true, normal := r.normal.dropLast, high := r.high ++ [e] }
  else { r with overflow := true }

/-- The events of one work enter in the order the work raises them (R189). -/
def State.raiseAll (s : State) (es : List Event) : State := s.withRgi (es.foldl enqueue s.rgi)

/-- The cycle number of the frame last accepted (R188, R12); before the first frame, where there is none, a free value (log 60). -/
def Rgi.cycleNow (r : Rgi) : Nat := r.lastCycle.getD Config.cycleBeforeFirst.toNat

/-- An event of the frame last accepted: it carries that frame's cycle number and plant time (R188). Before the first frame, which
commands standing alone can reach, the cycle number is a free value and the plant time that of the reset state (log 60 and 25). -/
def eventNow (s : State) (kind : EventKind) (high : Bool) (subject detail : Nat) : Event :=
  { kind := kind, high := high, cycle := s.rgi.cycleNow, plant := s.rgi.plant, subject := subject,
    detail := detail }

/-- A detail of two bytes from its upper and its lower byte. -/
def detail2 (upper lower : Nat) : Nat := upper * 256 + lower

/-! ## Banks -/

def BankId.other : BankId → BankId
  | .a => .b
  | .b => .a

/-- The bank of a name. -/
def Tbs.bank (t : Tbs) : BankId → Bank
  | .a => t.bankA
  | .b => t.bankB

/-- The bank the active pointer names (R20). -/
def Tbs.activeBank (t : Tbs) : Bank := t.bank t.active

/-- The other bank, the shadow (R20). -/
def Tbs.shadowBank (t : Tbs) : Bank := t.bank t.active.other

/-- The shadow with new contents. -/
def Tbs.withShadow (t : Tbs) (b : Bank) : Tbs :=
  match t.active with
  | .a => { t with bankB := b }
  | .b => { t with bankA := b }

/-- The tables every block reads. -/
def State.tables (s : State) : Bank := s.tbs.activeBank

/-- Whether the jobs run. -/
def State.running (s : State) : Bool := s.tbs.device == .run

/-! ## Answers -/

/-- What the owner of a telegram answers: status and payload (R185). -/
structure Answer where
  status : Status
  payload : List Byte
deriving DecidableEq, Repr

/-- An answer with an empty payload (R197). -/
def plain (st : Status) : Answer := { status := st, payload := [] }

/-- A telegram taken by its owner by itself: its reply is the one reply of the command (log 1). -/
def answerAlone (kind tag : Byte) (r : State × Answer) : State :=
  r.1.withReplies [{ kind := kind, tag := tag, status := r.2.status, payload := r.2.payload }]

end Machine
end Sys2Proof
end

