-- ==== Sys2Proof/Machine/Flags.lean ====
section
/-! DEFINITION. The codes and tests of the part's status values: qualities, conditions, flags, states and causes as
telegrams, replies and events carry them (R14, R95, R188, R193, R196, R199). -/

namespace Sys2Proof
namespace Machine

/-- GOOD or FORCED: what a limit point or a trip input must read to be usable (R57, R169). -/
def Quality.trusted : Quality → Bool
  | .good | .forced => true
  | .clamped | .stale | .bad => false

/-- GOOD, CLAMPED or FORCED: what a control reader uses (R41, R87, R97, R134, R136, R151). -/
def Quality.usable : Quality → Bool
  | .good | .clamped | .forced => true
  | .stale | .bad => false

/-- Quality codes (R193). -/
def Quality.code : Quality → Nat
  | .good => 0 | .clamped => 1 | .stale => 2 | .bad => 3 | .forced => 4

/-- Condition codes (R14). -/
def Condition.code : Condition → Nat
  | .good => 0 | .clamped => 1 | .stale => 2 | .bad => 3

/-- Whether a condition lies in the set STALE, BAD. -/
def Condition.lost : Condition → Bool
  | .good | .clamped => false
  | .stale | .bad => true

/-- Status codes (R196). -/
def Status.code : Status → Nat
  | .done => 0 | .refusedState => 1 | .refusedRange => 2 | .unknownKind => 3 | .unknownTable => 4 | .notOpen => 5
  | .collision => 6 | .countMismatch => 7 | .inconsistent => 8 | .notReady => 9 | .busy => 10

/-- Event kind codes (R188). -/
def EventKind.code : EventKind → Nat
  | .tripTaken => 1 | .tripReleased => 2 | .lineState => 3 | .seqFault => 4 | .emissionExceed => 5 | .emissionStop => 6
  | .halfhourClosed => 7 | .dayClosed => 8 | .pointQuality => 9 | .bankSwapped => 10 | .ringLost => 11
  | .ringRestored => 12 | .timeJump => 13 | .pressureLimit => 14 | .dosingLimit => 15 | .pairConflict => 16

/-- Line state codes (R95). -/
def LineState.code : LineState → Nat
  | .off => 0 | .start => 1 | .waste => 2 | .inhibit => 3 | .burnout => 4 | .tripped => 5

/-- Line cause codes (R95). -/
def LineCause.code : LineCause → Nat
  | .reset => 0 | .cmdStart => 1 | .cmdFeedOn => 2 | .cmdFeedOff => 3 | .cmdStop => 4 | .cmdReset => 5 | .tempLow => 6
  | .tempQualified => 7 | .emissionStop => 8 | .burnoutEnd => 9 | .trip => 10

/-- Average status codes (R199). -/
def AvgStatus.code : AvgStatus → Nat
  | .notOperating => 0 | .valid => 1 | .invalid => 2

/-- Device, ring, shadow, bank, reset cause and output mode codes: 0 for the first value listed, then on (R193). -/
def DeviceState.code : DeviceState → Nat
  | .config => 0 | .run => 1
def RingState.code : RingState → Nat
  | .starting => 0 | .synced => 1 | .lost => 2
def ShadowState.code : ShadowState → Nat
  | .closed => 0 | .opened => 1 | .committed => 2 | .swapPending => 3
def BankId.code : BankId → Nat
  | .a => 0 | .b => 1
def ResetCause.code : ResetCause → Nat
  | .powerOn => 0 | .powerOnAndRestart => 1
def OutputMode.code : OutputMode → Nat
  | .normal => 0 | .hold => 1 | .passive => 2

/-- The output mode of a mode code (R163, R193). -/
def outputModeOf (b : Byte) : Option OutputMode :=
  if b = 0 then some .normal else if b = 1 then some .hold else if b = 2 then some .passive else none

/-- The burner request is on in START, INHIBIT and BURNOUT (R89). -/
def LineState.burner : LineState → Bool
  | .start | .inhibit | .burnout => true
  | .off | .waste | .tripped => false

/-- A line operates in WASTE and INHIBIT (R96). -/
def LineState.operating : LineState → Bool
  | .waste | .inhibit => true
  | .off | .start | .burnout | .tripped => false

/-- The line states that stop a sequencer (R60 row 1). -/
def LineState.stopsFeeding : LineState → Bool
  | .off | .start | .tripped => true
  | .waste | .inhibit | .burnout => false

/-- A demand of on or off as a source value (R56, R89). -/
def onOff (b : Bool) : Nat := if b then 10000 else 0

end Machine
end Sys2Proof
end

