-- ==== Sys2Proof/Machine/Operands.lean ====
section
/-! DEFINITION. Table fields as their users take them: yes/no flags, signed fields, and every field outside its range
at the nearest end of it (R21), unless its chapter gives another treatment. R21 says so of the fields no check names; that the
fields a check names and does not bound are taken so too is the model's choice (log 56), where no chapter says it: rated output,
action % and release %, time and timeout of a step, target and ramp of a block. -/

namespace Sys2Proof
namespace Machine

/-- A yes/no field: 0 is no, and any other byte is taken at the nearest end, yes (R21, R193). Log 8. -/
def yes (b : Byte) : Bool := b != 0

/-- An entry's number in a table of `n`, from a field validation keeps in range. -/
def indexIn (n : Nat) (h : 0 < n) (i : Nat) : Fin n :=
  if hi : i < n then ⟨i, hi⟩ else ⟨n - 1, Nat.sub_one_lt (Nat.ne_of_gt h)⟩

/-! ## T0 -/

/-- T_cyc of a bank, 4 to 50 ms. -/
def Bank.tCyc (b : Bank) : Nat := clampNat 4 50 b.ring.tCyc.toNat
/-- The ring-loss time of a bank, 20 to 2,000 ms. -/
def Bank.lossTime (b : Bank) : Nat := clampNat 20 2000 b.ring.lossTime.toNat

def tminOf (e : CombustionEntry) : Int := clampNat 0 14000 e.tmin.toNat
def hysteresisOf (e : CombustionEntry) : Int := clampNat 0 1000 e.hysteresis.toNat
def qualHoldOf (e : CombustionEntry) : Nat := clampNat 0 600000 e.qualHold.toNat
def burnoutTimeOf (e : CombustionEntry) : Nat := clampNat 0 14400 e.burnoutTime.toNat
def heatGainOf (e : CombustionEntry) : Nat := clampNat 0 4000000 e.heatGain.toNat
def designHeatingOf (e : CombustionEntry) : Nat := clampNat 1000 30000 e.designHeating.toNat
def designFeedOf (e : CombustionEntry) : Nat := clampNat 0 100000 e.designFeed.toNat
def maxSteamOf (e : CombustionEntry) : Nat := e.maxSteam.toNat
def o2SetPointOf (e : CombustionEntry) : Nat := clampNat 0 2000 e.o2SetPoint.toNat
def massOf (e : CombustionEntry) : Nat := clampNat 0 10000 e.massPerStroke.toNat

def ratedOf (e : TurbineEntry) : Nat := clampNat 0 100000 e.rated.toNat
def specificOf (e : TurbineEntry) : Nat := clampNat 1 10000 e.specific.toNat
def bandOf (e : TurbineEntry) : Nat := clampNat 0 2000 e.band.toNat
def fastRampOf (e : TurbineEntry) : Nat := clampNat 1 60000 e.fastRamp.toNat
def shareOf (e : SplitEntry) : Nat := clampNat 0 100 e.share.toNat

def o2RefOf (e : EmissionEntry) : Nat := clampNat 0 2099 e.o2Ref.toNat
def o2CeilOf (e : EmissionEntry) : Nat := clampNat 1 2000 e.o2Ceil.toNat
/-- Action % and release %: 201 to 255, which validation lets pass, are taken as 200 (log 56). -/
def actionOf (e : EmissionEntry) : Nat := clampNat 0 200 e.action.toNat
def releaseOf (e : EmissionEntry) : Nat := clampNat 0 200 e.release.toNat
def reductionOf (e : EmissionEntry) : Nat := clampNat 0 100 e.reduction.toNat
def nStopOf (e : EmissionEntry) : Nat := clampNat 1 16 e.nStop.toNat
/-- Basis codes: WET 0, DRY 1 (R198). -/
def dryBasis (b : Byte) : Bool := yes b

def limitTimeOf (e : DosingEntry) : Nat := clampNat 0 3600 e.limitTime.toNat

/-! ## T1 -/

/-- The kind of a point (R1): ANALOG 0, BINARY 1, COUNTER 2. -/
inductive PointKind where
  | analog
  | binary
  | counter
deriving DecidableEq, Repr

def pointKind (e : PointEntry) : PointKind :=
  if e.kind = 0 then .analog else if e.kind = 1 then .binary else .counter
def staleLimitOf (e : PointEntry) : Nat := clampNat 1 255 e.staleLimit.toNat
def slotOf (e : PointEntry) : Nat := clampNat 0 511 e.slot.toNat
def engLowOf (e : PointEntry) : Int := clampInt (-32768) 65535 e.engLow.toInt
def engHighOf (e : PointEntry) : Int := clampInt (-32768) 65535 e.engHigh.toInt
def rangeLowOf (e : PointEntry) : Int := clampInt (-32768) 65535 e.rangeLow.toInt
def rangeHighOf (e : PointEntry) : Int := clampInt (-32768) 65535 e.rangeHigh.toInt
def qualCountOf (e : PointEntry) : Nat := clampNat 0 15 e.qualCount.toNat
/-- A depth outside the listed values is taken as the next listed value above it, one above 32 as 32 (R1). -/
def depthOf (e : PointEntry) : Nat :=
  let d := e.depth.toNat
  if d ≤ 1 then 1 else if d ≤ 2 then 2 else if d ≤ 4 then 4 else if d ≤ 8 then 8 else if d ≤ 16 then 16 else 32

/-! ## T2, T3 -/

/-- A source of 0 is none (R159). -/
def hasSource (e : OutputEntry) : Bool := e.source != 0
def outputReversed (e : OutputEntry) : Bool := yes e.direction
def passiveOf (e : OutputEntry) : Nat := clampNat 0 10000 e.passive.toNat
def intervalOf (e : PairEntry) : Nat := clampNat 0 5000 e.interval.toNat

/-- The pair and the partner of an output record, when it is a member of an in-use pair (R162, R166). -/
def pairOf (b : Bank) (k : Fin 64) : Option (Fin 16 × Fin 64) :=
  let id := (b.outputs.get k).pairId.toNat
  if h : 1 ≤ id ∧ id ≤ 16 then
    let p : Fin 16 := ⟨id - 1, by omega⟩
    let e := b.pairs.get p
    if yes e.inUse then
      if e.memberA.toNat = k.val then some (p, indexIn 64 (by decide) e.memberB.toNat)
      else if e.memberB.toNat = k.val then some (p, indexIn 64 (by decide) e.memberA.toNat)
      else none
    else none
  else none

/-! ## T4, T5 -/

/-- Triggers (R169). -/
inductive Trigger where
  | levelHigh
  | levelLow
  | rising
  | falling
  | bothEdges
deriving DecidableEq, Repr

def triggerOf (e : TripEntry) : Trigger :=
  if e.trigger = 0 then .levelHigh else if e.trigger = 1 then .levelLow else if e.trigger = 2 then .rising
  else if e.trigger = 3 then .falling else .bothEdges

/-- Release modes (R171). -/
inductive ReleaseMode where
  | latched
  | auto
  | autoDelayed
deriving DecidableEq, Repr

def releaseModeOf (e : GroupEntry) : ReleaseMode :=
  if e.releaseMode = 0 then .latched else if e.releaseMode = 1 then .auto else .autoDelayed
def releaseDelayOf (e : GroupEntry) : Nat := clampNat 0 600 e.releaseDelay.toNat

/-- Whether an effect byte (none 0, line 1 1, line 2 2, both 3) includes a line (R171, R198). -/
def effectIncludes (b : Byte) : Line → Bool
  | .one => b == 1 || (3 : Byte) ≤ b
  | .two => (2 : Byte) ≤ b

/-! ## T6 -/

def inService (e : LoopEntry) : Bool := yes e.inService
def outMinOf (e : LoopEntry) : Int := clampNat 0 10000 e.outMin.toNat
/-- Out max; of an out-of-service entry never below out min (R39). -/
def outMaxOf (e : LoopEntry) : Int :=
  let hi : Int := clampNat 0 10000 e.outMax.toNat
  if ¬ inService e ∧ hi < outMinOf e then outMinOf e else hi
/-- Ti, from T_cyc to 3,600,000 ms (R39). -/
def tiOf (b : Bank) (e : LoopEntry) : Int := clampNat b.tCyc 3600000 e.ti.toNat
def spConstantOf (e : LoopEntry) : Int := clampInt (-32768) 65535 e.spConstant.toInt
/-- COMPUTED is 1, DIRECT is 0, ROLE is 1 (R198). -/
def spComputed (e : LoopEntry) : Bool := yes e.spSource
def loopReversed (e : LoopEntry) : Bool := yes e.direction
def ffRole (e : LoopEntry) : Bool := yes e.ffSource

/-! ## T7 -/

/-- Completion conditions (R58). -/
inductive Completion where
  | limit
  | time
  | limitOrTime
deriving DecidableEq, Repr

def completionOf (e : StepEntry) : Completion :=
  if e.completion = 0 then .limit else if e.completion = 1 then .time else .limitOrTime
def stepTimeOf (e : StepEntry) : Nat := clampNat 0 60000 e.time.toNat
def stepTimeoutOf (e : StepEntry) : Nat := clampNat 100 60000 e.timeout.toNat
/-- The step that follows, none for END (255 in R193). -/
def nextStepOf (e : StepEntry) : Option (Fin 16) :=
  if e.next = 255 then none else some (indexIn 16 (by decide) e.next.toNat)
/-- T7 entry n for line 1, 16 + n for line 2 (R58). -/
def stepEntry (b : Bank) (l : Line) (n : Fin 16) : StepEntry :=
  b.steps.get ⟨16 * l.offset + n.val, by cases l <;> simp [Line.offset] <;> omega⟩

/-! ## T8, T9 -/

def blockTargetOf (e : BlockEntry) : Nat := clampNat 0 100000 e.target.toNat
def blockRampOf (e : BlockEntry) : Nat := clampNat 1 10000 e.ramp.toNat
def blockStartOf (e : BlockEntry) : Nat := clampNat 0 1439 e.start.toNat

/-- T9 entry k for component k of line 1, 6 + k for line 2 (R104). -/
def componentEntry (b : Bank) (l : Line) (k : Fin 6) : ComponentEntry :=
  b.components.get ⟨6 * l.offset + k.val, by cases l <;> simp [Line.offset] <;> omega⟩
def minValidOf (e : ComponentEntry) : Nat := clampNat 1 30 e.minValid.toNat
def uncertaintyOf (e : ComponentEntry) : Nat := clampNat 0 40 e.uncertainty.toNat
def dayMinOf (e : ComponentEntry) : Nat := clampNat 1 48 e.dayMin.toNat

/-! ## The image by point number -/

/-- A point of the image as last published. -/
def State.point (s : State) (n : Byte) : PointOut := s.piu.image.get n.toFin

end Machine
end Sys2Proof
end

