-- ==== Sys2Proof/Machine/Emissions.lean ====
section
/-! DEFINITION. The emission averaging unit: normalization (R106 to R109), minutes (R110, R111), plant time (R112 to R114),
half-hours (R115 to R119), emission stop (R120, R121), feed reduction (R122, R123), days (R124, R125), reading
(R126, R127), restart and swaps (R128 to R130). -/

namespace Sys2Proof
namespace Machine

/-- The emission group of a line in the active bank. -/
def emissionOf (s : State) (l : Line) : EmissionEntry := s.tables.emission.get l

/-- One line's EAU record replaced. -/
def State.withEauLine (s : State) (l : Line) (x : EauLine) : State :=
  s.withEau { s.eau with lines := s.eau.lines.set l x }

/-! ## Normalization -/

/-- A point's value limited to a range of numbers not below 0. -/
def pointNat (s : State) (p : Byte) (hi : Nat) : Nat := min hi (s.point p).value.toNat

/-- Water content H of a line (R106). -/
def waterContent (s : State) (l : Line) : Nat := pointNat s (emissionOf s l).h2oPoint 5000

/-- Dry oxygen O2d of a line (R106). -/
def dryOxygen (s : State) (l : Line) : Nat :=
  let o2 := pointNat s (emissionOf s l).o2Point 10000
  if dryBasis (emissionOf s l).o2Basis then o2 else roundHalfUp (o2 * 10000) (10000 - waterContent s l)

/-- The latched O2 reference and O2 ceiling of a line (R115). -/
def latchedRef (s : State) (l : Line) : Nat := ((s.eau.lines.get l).latch.map HalfLatch.o2Ref).getD 0
def latchedCeil (s : State) (l : Line) : Nat := ((s.eau.lines.get l).latch.map HalfLatch.o2Ceil).getD 0

/-- Whether the sample of a line is normalizable (R106). -/
def normalizable (s : State) (l : Line) : Bool := dryOxygen s l < latchedCeil s l

/-- The H of a component: 0 on dry basis (R107, R133). -/
def componentH (s : State) (l : Line) (k : Fin 6) : Nat :=
  if dryBasis (componentEntry s.tables l k).basis then 0 else waterContent s l

/-- The normalized value before its limit (R107). -/
def normalizedQuotient (s : State) (l : Line) (k : Fin 6) : Nat :=
  roundHalfUp (pointNat s (componentEntry s.tables l k).point 65535 * 10000 * (2100 - latchedRef s l))
    ((10000 - componentH s l k) * (2100 - dryOxygen s l))

/-- The quotient of R107 lies above 65,535. -/
def overRange (s : State) (l : Line) (k : Fin 6) : Bool :=
  65535 * ((10000 - componentH s l k) * (2100 - dryOxygen s l)) <
    pointNat s (componentEntry s.tables l k).point 65535 * 10000 * (2100 - latchedRef s l)

/-- A point of quality GOOD. -/
def isGood (s : State) (p : Byte) : Bool := (s.point p).quality == .good

/-- Whether a component is in maintenance hold (R108 row 1, R109). A GOOD reading other than 0 and 1, which R109 does not name, is taken
as in service: the model's choice (log 58). -/
def analyzerOut (s : State) (l : Line) (k : Fin 6) : Bool :=
  let p := (componentEntry s.tables l k).analyzer
  (s.point p).value == 0 || !isGood s p

/-- The flag of a component (R108). -/
def sampleFlag (s : State) (l : Line) (k : Fin 6) : SampleFlag :=
  if analyzerOut s l k then .maintHold
  else if ¬ normalizable s l then .o2High
  else if overRange s l k then .overRange
  else if ¬ (isGood s (componentEntry s.tables l k).point ∧ isGood s (emissionOf s l).o2Point ∧
      isGood s (emissionOf s l).h2oPoint) then .inputInvalid
  else .valid

/-- The instantaneous values of a component after a work (R108, R109). -/
def instantOf (s : State) (l : Line) (k : Fin 6) : Instant :=
  let i := (s.eau.lines.get l).inst.get k
  match sampleFlag s l k with
  | .maintHold => { i with value := i.lastValid, flag := .maintHold }
  | .o2High => { i with flag := .o2High }
  | .overRange => { i with value := 65535, flag := .overRange }
  | .inputInvalid => { i with value := normalizedQuotient s l k, flag := .inputInvalid }
  | .valid => { value := normalizedQuotient s l k, flag := .valid, lastValid := normalizedQuotient s l k }

/-! ## Minutes -/

/-- A sample joins a component's accumulator (R110). -/
def accumulate (operating : Bool) (i : Instant) (a : MinuteAcc) : MinuteAcc :=
  if 30000 ≤ a.operating + a.nonOperating then a
  else if ¬ operating then { a with nonOperating := a.nonOperating + 1 }
  else if i.flag = .valid then { a with operating := a.operating + 1, sum := a.sum + i.value, valid := a.valid + 1 }
  else { a with operating := a.operating + 1 }

/-- The status and average of a component's minute (R111). -/
def minuteStatus (discard : Bool) (a : MinuteAcc) : StatusAvg :=
  if discard then { status := .invalid, average := 0 }
  else if a.operating < a.nonOperating then { status := .notOperating, average := 0 }
  else if a.operating * 2 ≤ a.valid * 3 ∧ 1 ≤ a.valid then
    { status := .valid, average := roundHalfUp a.sum a.valid }
  else { status := .invalid, average := 0 }

/-- The result of a closed minute (R111). The line is NOT_OPERATING when row 2 applied, to all components alike. Where some
components are VALID and some INVALID their statuses have no common kind; the slot keeps of the line status only whether it is
NOT_OPERATING, which is the model's choice (log 54). -/
def closedSlot (x : EauLine) : MinuteSlot :=
  { notOperating := (minuteStatus x.discard (x.acc.get 0)).status == .notOperating
    comps := tabulate 6 fun k => minuteStatus x.discard (x.acc.get k) }

/-- A skipped minute (R113), and a minute before the first in RUN (R128, with the flag false). -/
def skippedSlot (operating : Bool) : MinuteSlot :=
  { notOperating := !operating
    comps := Vector.replicate 6 { status := if operating then .invalid else .notOperating, average := 0 } }

/-- A minute result stored in the slot its absolute number gives. -/
def storeSlot (x : EauLine) (minute : Nat) (m : MinuteSlot) : EauLine :=
  { x with slots := x.slots.set (minute % 30) (some m) (Nat.mod_lt _ (by decide)) }

/-! ## Means over the slots of the open half-hour -/

/-- The averages of a component's VALID slots. -/
def validAverages (x : EauLine) (k : Fin 6) : List Nat :=
  x.slots.toList.filterMap fun o =>
    o.bind fun m => if (m.comps.get k).status = .valid then some (m.comps.get k).average else none

/-- A mean rounded half up. -/
def meanOf (xs : List Nat) : Nat := roundHalfUp xs.sum xs.length

/-- An average after deduction of the uncertainty (R116, R122). -/
def validatedOf (average u : Nat) : Nat := roundHalfUp (average * (100 - u)) 100

/-- The half-hour latch of a component, zeros before the first. -/
def latchComp (x : EauLine) (k : Fin 6) : CompLatch :=
  (x.latch.map fun h => h.comps.get k).getD { limit := 0, minValid := 1, uncertainty := 0 }

/-- The running validated mean of a component, where it has a VALID slot (R122). -/
def runningMean (x : EauLine) (k : Fin 6) : Option Nat :=
  if validAverages x k = [] then none
  else some (validatedOf (meanOf (validAverages x k)) (latchComp x k).uncertainty)

/-- Feed reduction after a minute close (R122). -/
def reductionAfter (e : EmissionEntry) (x : EauLine) : Bool :=
  let means := (List.finRange 6).filterMap fun k => (runningMean x k).map fun m => (m, (latchComp x k).limit)
  if means = [] then x.reduction
  else if x.reduction then !(means.all fun p => p.1 * 100 ≤ p.2 * releaseOf e)
  else means.any fun p => p.2 * actionOf e ≤ p.1 * 100

/-- A minute close: its result stored, feed reduction evaluated (R111, R112, R122). -/
def closeMinute (e : EmissionEntry) (minute : Nat) (m : MinuteSlot) (x : EauLine) : EauLine :=
  let x1 := storeSlot x minute m
  { x1 with reduction := reductionAfter e x1 }

/-! ## Half-hours -/

/-- The result of a component at a half-hour close (R116). -/
def halfComp (x : EauLine) (k : Fin 6) : HalfComp :=
  let lt := latchComp x k
  let vs := validAverages x k
  let operated := x.slots.toList.any fun o => o.any fun m => (m.comps.get k).status != .notOperating
  if ¬ operated then { status := .notOperating, average := 0, validated := 0, exceed := false, limit := lt.limit }
  else if lt.minValid ≤ vs.length then
    { status := .valid, average := meanOf vs, validated := validatedOf (meanOf vs) lt.uncertainty,
      exceed := decide (lt.limit < validatedOf (meanOf vs) lt.uncertainty), limit := lt.limit }
  else { status := .invalid, average := 0, validated := 0, exceed := false, limit := lt.limit }

/-- The half-hour record (R116) of the half-hour that a minute lies in. -/
def halfRecordOf (x : EauLine) (minute : Nat) : HalfRecord :=
  { day := minute / 1440
    index := minute % 1440 / 30
    comps := tabulate 6 (halfComp x)
    operatingMinutes := (x.slots.toList.filter fun o => o.any fun m => !m.notOperating).length }

/-- A record joins a ring of n at the newest end; a full ring loses its oldest first (R117, R125). -/
def pushRing {α : Type} (n : Nat) (ring : List α) (x : α) : List α := (ring ++ [x]).drop ((ring ++ [x]).length - n)

/-- A half-hour's result enters the day accumulator (R124). -/
def dayAccAfter (h : HalfComp) (a : DayAcc) : DayAcc :=
  match h.status with
  | .notOperating => a
  | .valid => { sum := a.sum + h.validated, valid := a.valid + 1, counted := a.counted + 1 }
  | .invalid => { a with counted := a.counted + 1 }

/-- Any component with exceed; every component NOT_OPERATING; any component VALID. -/
def anyExceed (r : HalfRecord) : Bool := r.comps.toList.any fun c => c.exceed
def allNotOperating (r : HalfRecord) : Bool := r.comps.toList.all fun c => c.status == .notOperating
def anyValid (r : HalfRecord) : Bool := r.comps.toList.any fun c => c.status == .valid

/-- The exceedance run after a half-hour close (R119). -/
def runAfter (r : HalfRecord) (run : Nat) : Nat :=
  if anyExceed r then min 255 (run + 1) else if allNotOperating r then run else 0

/-- The emission stop after a half-hour close (R120, R121): set at a close that updates the run to N_stop or more, cleared
at a close with a VALID component and no exceed. -/
def stopAfter (nStop : Nat) (r : HalfRecord) (run : Nat) (stop : Bool) : Bool :=
  if ¬ allNotOperating r ∧ nStop ≤ run then true
  else if ¬ anyExceed r ∧ anyValid r then false
  else stop

/-- The set of components with exceed, DUST the lowest bit (R118). -/
def exceedSet (r : HalfRecord) : Nat :=
  ((List.finRange 6).map fun k => if (r.comps.get k).exceed then 2 ^ k.val else 0).sum

/-- The events of a half-hour close that is not passed over (R118), and of the emission stop (R120, R121). -/
def halfEvents (s : State) (l : Line) (r : HalfRecord) (passedOver before after : Bool) : List Event :=
  (if passedOver then []
    else
      eventNow s .halfhourClosed false l.number (detail2 r.index (exceedSet r)) ::
        (List.finRange 6).filterMap fun k =>
          if (r.comps.get k).exceed then
            some (eventNow s .emissionExceed false (6 * l.offset + k.val) (r.comps.get k).validated)
          else none) ++
    (if before = after then [] else [eventNow s .emissionStop true l.number (if after then 1 else 0)])

/-- What placing one line in plant time has made of it so far: its record, the half-hours and days passed over that have
been recorded in this jump (R113), and the events raised. -/
structure Placing where
  line : EauLine
  halves : Nat
  days : Nat
  events : List Event
deriving DecidableEq, Repr

/-- A half-hour closes (R116 to R121, R124); `minute` is its last minute. -/
def closeHalfHour (s : State) (l : Line) (minute : Nat) (passedOver : Bool) (p : Placing) : Placing :=
  let x := p.line
  let r := halfRecordOf x minute
  let run := runAfter r x.run
  let stop := stopAfter (nStopOf (emissionOf s l)) r run x.stop
  let recorded := !passedOver || decide (p.halves < 96)
  { p with
    line :=
      { x with
        run := run
        stop := stop
        halves := if recorded then pushRing 96 x.halves r else x.halves
        dayAcc := tabulate 6 fun k => dayAccAfter (r.comps.get k) (x.dayAcc.get k) }
    halves := if passedOver then p.halves + 1 else p.halves
    events := p.events ++ halfEvents s l r passedOver x.stop stop }

/-! ## Days -/

/-- The result of a component at a day close (R125). -/
def dayComp (x : EauLine) (k : Fin 6) : DayComp :=
  let a := x.dayAcc.get k
  let lt := (x.dayLatch.map fun v => v.get k).getD { limit := 0, dayMin := 1 }
  if a.counted = 0 then { status := .notOperating, mean := 0, exceed := false, limit := lt.limit, validCount := a.valid }
  else if lt.dayMin ≤ a.valid then
    { status := .valid, mean := roundHalfUp a.sum a.valid, exceed := decide (lt.limit < roundHalfUp a.sum a.valid),
      limit := lt.limit, validCount := a.valid }
  else { status := .invalid, mean := 0, exceed := false, limit := lt.limit, validCount := a.valid }

/-- A day closes (R125); `minute` is its last minute. -/
def closeDay (s : State) (l : Line) (minute : Nat) (passedOver : Bool) (p : Placing) : Placing :=
  let x := p.line
  let r : DayRecord := { day := minute / 1440, comps := tabulate 6 (dayComp x) }
  let recorded := !passedOver || decide (p.days < 7)
  { p with
    line := { x with days := if recorded then pushRing 7 x.days r else x.days }
    days := if passedOver then p.days + 1 else p.days
    events := p.events ++ (if passedOver then [] else [eventNow s .dayClosed false l.number r.day]) }

/-! ## Latches and opening -/

/-- The half-hour latch from a bank (R115). -/
def halfLatchOf (b : Bank) (l : Line) : HalfLatch :=
  { o2Ref := o2RefOf (b.emission.get l), o2Ceil := o2CeilOf (b.emission.get l)
    comps := tabulate 6 fun k =>
      let e := componentEntry b l k
      { limit := e.limit.toNat, minValid := minValidOf e, uncertainty := uncertaintyOf e } }

/-- The day latch from a bank (R124). -/
def dayLatchOf (b : Bank) (l : Line) : Vector DayCompLatch 6 :=
  tabulate 6 fun k => let e := componentEntry b l k; { limit := e.dailyLimit.toNat, dayMin := dayMinOf e }

/-- What opening a minute takes with it when it begins a half-hour or a day (R115, R124): latches, empty slots, empty day
accumulator. -/
def beginPeriods (b : Bank) (l : Line) (minute : Nat) (x : EauLine) : EauLine :=
  let x1 :=
    if minute % 30 = 0 then { x with latch := some (halfLatchOf b l), slots := Vector.replicate 30 none } else x
  if minute % 1440 = 0 then { x1 with dayLatch := some (dayLatchOf b l), dayAcc := dayAccEmpty } else x1

/-- A minute opens: the accumulators are emptied and the discard mark cleared (R111, R112). -/
def openMinute (minute : Nat) (x : EauLine) : EauLine :=
  { x with openMinute := some minute, acc := accEmpty, discard := false }

/-! ## Placing a frame in plant time (R112, R113) -/

/-- The end of a minute: the half-hour and the day that it completes close. `first` is the minute that was open at the
frame; a half-hour or day that it does not lie in is passed over (R113). -/
def endMinute (s : State) (l : Line) (first minute : Nat) (p : Placing) : Placing :=
  let p1 := if (minute + 1) % 30 = 0 then closeHalfHour s l minute (minute / 30 != first / 30) p else p
  if (minute + 1) % 1440 = 0 then closeDay s l minute (minute / 1440 != first / 1440) p1 else p1

/-- One skipped minute (R113). -/
def skipMinute (s : State) (l : Line) (first minute : Nat) (p : Placing) : Placing :=
  let x := beginPeriods s.tables l minute p.line
  endMinute s l first minute
    { p with line := closeMinute (emissionOf s l) minute (skippedSlot (s.lsv.get l).pub.operating) x }

/-- The next `n` minutes skipped, in ascending order. -/
def skipMinutes (s : State) (l : Line) (first : Nat) : Nat → Nat → Placing → Placing
  | 0, _, p => p
  | n + 1, minute, p => skipMinutes s l first n (minute + 1) (skipMinute s l first minute p)

/-- One line placed in the frame's minute (R112): the case table of that rule. -/
def placeLine (s : State) (l : Line) (minute : Nat) (x : EauLine) : EauLine × List Event :=
  match x.openMinute with
  | none =>
    -- R128: the minutes of the half-hour before the first are NOT_OPERATING
    let slots := tabulate 30 fun i => if i.val < minute % 30 then some (skippedSlot false) else none
    (openMinute minute { x with slots := slots }, [])
  | some first =>
    if minute ≤ first then (x, [])
    else
      let p0 : Placing :=
        { line := closeMinute (emissionOf s l) first (closedSlot x) x, halves := 0, days := 0, events := [] }
      let p := skipMinutes s l first (minute - first - 1) (first + 1) (endMinute s l first first p0)
      (openMinute minute (beginPeriods s.tables l minute p.line), p.events)

/-- Plant time as one count of ms from day 0, and its absolute minute. -/
def plantMs (t : PlantTime) : Nat := t.day * 86400000 + t.ms
def plantMinute (t : PlantTime) : Nat := t.day * 1440 + t.ms / 60000

/-- The TIME_JUMP event of a step from the last plant time, if it is one (R112 to R114). -/
def timeJump (s : State) (last now : Nat) : List Event :=
  if now < last then [eventNow s .timeJump false 0 (detail2 2 (min 255 ((last - now) / 60000)))]
  else if last + 5000 < now then [eventNow s .timeJump false 0 (detail2 1 (min 255 ((now - last) / 60000)))]
  else []

/-- Both lines placed in the plant time of a frame (R112). -/
def placeFrame (t : PlantTime) (s : State) : State :=
  let m := plantMinute t
  let one := placeLine s .one m s.eau.lines.one
  let two := placeLine s .two m s.eau.lines.two
  let jump := match s.eau.lastPlant with
    | some last => timeJump s last (plantMs t)
    | none => []
  (s.withEau { lastPlant := some (plantMs t), lines := { one := one.1, two := two.1 } }).raiseAll
    (jump ++ one.2 ++ two.2)

/-! ## The work of one frame (R105) -/

/-- The samples of a line formed and accumulated (R106 to R110). -/
def sampleLine (s : State) (l : Line) : EauLine :=
  let x := s.eau.lines.get l
  let inst := tabulate 6 (instantOf s l)
  { x with
    inst := inst
    acc := if x.discard then x.acc
      else tabulate 6 fun k => accumulate (s.lsv.get l).pub.operating (inst.get k) (x.acc.get k) }

/-- The publication of a line (R105, R123). -/
def publishEau (s : State) (l : Line) (x : EauLine) : EauLine :=
  { x with pub := { reduction := x.reduction, percent := reductionOf (emissionOf s l), stop := x.stop } }

/-- The EAU publishes both lines together. -/
def publishEmissions (s : State) : State :=
  s.withEau { s.eau with
    lines := { one := publishEau s .one s.eau.lines.one, two := publishEau s .two s.eau.lines.two } }

/-- The samples of both lines. -/
def sampleBoth (s : State) : State :=
  s.withEau { s.eau with lines := { one := sampleLine s .one, two := sampleLine s .two } }

/-- The work of the EAU on an accepted frame (R105). -/
def eauWork (s : State) : State :=
  if s.running then publishEmissions (sampleBoth (placeFrame s.rgi.plant s)) else s

/-! ## Latches at the first frame in RUN, restart -/

/-- Both latches of both lines from a bank (R128, R129). -/
def latchLine (b : Bank) (l : Line) (x : EauLine) : EauLine :=
  { x with latch := some (halfLatchOf b l), dayLatch := some (dayLatchOf b l) }
def latchEmissions (b : Bank) (e : Eau) : Eau :=
  { e with lines := { one := latchLine b .one e.lines.one, two := latchLine b .two e.lines.two } }

/-- One line's record at a restart (R129). Readers that work before the EAU on the restarting frame find the reset
instantaneous values, which is the model's choice (log 52). -/
def eauLineRestart (b : Bank) (l : Line) (x : EauLine) : EauLine :=
  latchLine b l { x with acc := accEmpty, discard := true, inst := instReset }

/-- The EAU at a restart (R129). -/
def eauRestart (b : Bank) (e : Eau) : Eau :=
  { e with lines := { one := eauLineRestart b .one e.lines.one, two := eauLineRestart b .two e.lines.two } }

/-! ## Telegrams -/

/-- A half-hour record as RECORD_READ returns it (R199). -/
def halfBytesOf (l : Line) (r : HalfRecord) : List Byte :=
  nat8 l.number ++ nat16 r.day ++ nat8 r.index ++ nat8 r.operatingMinutes ++
    r.comps.toList.flatMap fun c =>
      nat8 c.status.code ++ flag8 c.exceed ++ nat16 c.average ++ nat16 c.validated ++ nat16 c.limit

/-- RECORD_READ (R126). -/
def takeRecordRead (line : Byte) (day : Half) (index : Byte) (s : State) : State × Answer :=
  match lineOf line with
  | none => (s, plain .refusedRange)
  | some l =>
    if 47 < index.toNat then (s, plain .refusedRange)
    else match (s.eau.lines.get l).halves.find? fun r => r.day == day.toNat && r.index == index.toNat with
      | none => (s, plain .refusedRange)
      | some r => (s, { status := .done, payload := halfBytesOf l r })

/-- A day record as DAY_READ returns it: component after component, each with the items in the order R125 lists them
(log 13). -/
def dayBytesOf (l : Line) (r : DayRecord) : List Byte :=
  nat8 l.number ++ nat16 r.day ++
    r.comps.toList.flatMap fun c =>
      nat8 c.status.code ++ nat16 c.mean ++ flag8 c.exceed ++ nat16 c.limit ++ nat8 c.validCount

/-- DAY_READ (R127). -/
def takeDayRead (line : Byte) (day : Half) (s : State) : State × Answer :=
  match lineOf line with
  | none => (s, plain .refusedRange)
  | some l =>
    match (s.eau.lines.get l).days.find? fun r => r.day == day.toNat with
    | none => (s, plain .refusedRange)
    | some r => (s, { status := .done, payload := dayBytesOf l r })

/-- A period as RING_INFO returns it, 0 where no record is held (R127). -/
def periodBytes : Option HalfRecord → List Byte
  | none => nat16 0 ++ nat8 0
  | some r => nat16 r.day ++ nat8 r.index
def dayNumberBytes : Option DayRecord → List Byte
  | none => nat16 0
  | some r => nat16 r.day

/-- RING_INFO (R127). -/
def takeRingInfo (line : Byte) (s : State) : State × Answer :=
  match lineOf line with
  | none => (s, plain .refusedRange)
  | some l =>
    let x := s.eau.lines.get l
    (s, { status := .done
          payload := nat8 x.halves.length ++ periodBytes x.halves.head? ++ periodBytes x.halves.getLast? ++
            nat8 x.days.length ++ dayNumberBytes x.days.head? ++ dayNumberBytes x.days.getLast? })

/-! ## The commands -/

/-- Whether the open minute of a line lies in an earlier period of the given length than a plant minute. -/
def periodPassed (s : State) (minutes : Nat) (t : PlantTime) : Bool :=
  [Line.one, Line.two].any fun l =>
    match (s.eau.lines.get l).openMinute with
    | some m => decide (m / minutes < plantMinute t / minutes)
    | none => false

/-- A frame's plant time placed and the result published, where a period of the given length closes by it (log 14). -/
def closePeriod (minutes : Nat) (t : PlantTime) (s : State) : State :=
  if s.running && periodPassed s minutes t then publishEmissions (placeFrame t s) else s

/-- MINUTE_CLOSE (R111, R112). -/
def execMinuteClose (t : PlantTime) (s : State) : Host.Outcome State Fault Refusal := .next (closePeriod 1 t s)
/-- HALFHOUR_CLOSE (R116). -/
def execHalfhourClose (t : PlantTime) (s : State) : Host.Outcome State Fault Refusal := .next (closePeriod 30 t s)
/-- DAY_CLOSE (R125). -/
def execDayClose (t : PlantTime) (s : State) : Host.Outcome State Fault Refusal := .next (closePeriod 1440 t s)

def execRecordRead (tag line : Byte) (day : Half) (index : Byte) (s : State) : Host.Outcome State Fault Refusal :=
  .next (answerAlone 17 tag (takeRecordRead line day index s))
def execDayRead (tag line : Byte) (day : Half) (s : State) : Host.Outcome State Fault Refusal :=
  .next (answerAlone 18 tag (takeDayRead line day s))
def execRingInfo (tag line : Byte) (s : State) : Host.Outcome State Fault Refusal :=
  .next (answerAlone 19 tag (takeRingInfo line s))

end Machine
end Sys2Proof
end

