-- ==== Sys2Proof/Machine/Grate.lean ====
section
/-! DEFINITION. The grate sequencers: their work (R59 to R72), faults (R73 to R75), line states, feed stops and ring loss
(R76 to R80). One definition serves both lines. -/

namespace Sys2Proof
namespace Machine

/-! ## Limit points (R57, R73) -/

/-- Limit point j of a line (order of R198), as last published. -/
def limitPoint (s : State) (l : Line) (j : Fin 8) : PointOut :=
  s.point ((s.tables.combustion.get l).limitPoints.get j)

/-- Whether limit point j is usable and reads v. -/
def limitReads (s : State) (l : Line) (j : Fin 8) (v : Int) : Bool :=
  (limitPoint s l j).quality.trusted && (limitPoint s l j).value == v

/-- The lowest actuator in limit conflict: both its limit points usable and reading 1 (R73). -/
def limitConflict (s : State) (l : Line) : Option (Fin 4) :=
  (List.finRange 4).find? fun a =>
    limitReads s l ⟨2 * a.val, by omega⟩ 1 && limitReads s l ⟨2 * a.val + 1, by omega⟩ 1

/-! ## Causes -/

/-- A feed stop cause stands (R78): a group whose feed stop effect includes the line shows TRIPPED as last published. -/
def feedStopCause (s : State) (l : Line) : Bool :=
  (List.finRange 8).any fun g =>
    s.otu.pubGroups.get g && effectIncludes (s.tables.groups.get g).feedStop l

/-- A hold cause stands (R79): a feed stop cause or ring loss. -/
def seqHoldCause (s : State) (l : Line) : Bool := feedStopCause s l || s.rgi.ring != .synced

/-- PAUSE, STEPPING or HELD. -/
def SeqState.active : SeqState → Bool
  | .pause | .stepping | .held => true
  | .stopped | .fault => false

/-! ## Entering states -/

/-- Captures emptied and the feed estimate 0 (R72). -/
def clearCaptures (g : Gsq) : Gsq := { g with current := none, previous := none, feed := 0 }

/-- Into STOPPED (R75, R77). -/
def enterStopped (g : Gsq) : Gsq :=
  clearCaptures { g with state := .stopped, step := none, timerStart := none, demands := 0 }

/-- Into FAULT (R74). -/
def enterFault (g : Gsq) : Gsq :=
  clearCaptures { g with state := .fault, step := none, timerStart := none, demands := 0 }

/-- Into HELD, the step record and its timer start kept (R78, R80). -/
def enterHeld (g : Gsq) : Gsq := clearCaptures { g with state := .held, demands := 0 }

/-- Into PAUSE with a pause base (R61, R79). -/
def enterPause (g : Gsq) (at_ : Nat) (k : PauseKind) : Gsq :=
  { g with state := .pause, step := none, timerStart := none, demands := 0, pauseBase := some (at_, k) }

/-- The SEQ_FAULT event (R74). -/
def seqFaultEvent (s : State) (l : Line) (cause index : Nat) : Event :=
  eventNow s .seqFault true l.number (detail2 cause index)

/-! ## Steps (R64 to R71) -/

/-- A sequencer with the events its work has raised. -/
abbrev SeqResult := Gsq × List Event

/-- Step n is started from the active bank (R64), or is missing (R69). -/
def startStep (s : State) (l : Line) (n : Fin 16) (g : Gsq) : SeqResult :=
  let e := stepEntry s.tables l n
  if yes e.inUse then
    ({ g with state := .stepping, step := some (n.val, e), timerStart := none, demands := e.outputs }, [])
  else (enterFault g, [seqFaultEvent s l 3 n.val])

/-- The pause end (R62), absent where it is never reached. -/
def pauseEnd (g : Gsq) (strokes : Nat) : Option Nat :=
  match g.pauseBase with
  | none => none
  | some (t, .entry) => some t
  | some (t, _) => if strokes = 0 then none else some (t + 3600000 / strokes)

/-- Whether PAUSE starts a cycle in this work (R63). -/
def startDue (s : State) (l : Line) (g : Gsq) : Bool :=
  let r := (s.lsv.get l).pub
  (match pauseEnd g r.strokes with
    | some t => t ≤ s.rgi.runTime
    | none => false) && r.permission && 1 ≤ r.strokes

/-- A stroke cycle starts at step 0 (R63, R64, R69): a missing step 0 starts no cycle. -/
def startCycle (s : State) (l : Line) (g : Gsq) : SeqResult :=
  if yes (stepEntry s.tables l 0).inUse then
    startStep s l 0 { g with cycleStart := s.rgi.runTime, pauseBase := some (s.rgi.runTime, .cycle) }
  else (enterFault g, [seqFaultEvent s l 3 0])

/-- The source code of hydraulic output j of a line (R159). -/
def hydraulicSource (l : Line) (j : Nat) : Nat := 16 + 8 * l.offset + j

/-- Whether output j shows as put on: every record that names it took the on demand and is not PENDING (R65). -/
def outputOn (s : State) (l : Line) (j : Nat) : Bool :=
  (List.finRange 64).all fun k =>
    (s.tables.outputs.get k).source.toNat != hydraulicSource l j ||
      ((s.otu.pub.get k).source == 10000 && !(s.otu.pub.get k).pending)

/-- Whether every output of a step is on (R65). -/
def outputsOn (s : State) (l : Line) (e : StepEntry) : Bool :=
  (List.range 8).all fun j => !e.outputs.getLsbD j || outputOn s l j

/-- The LIMIT part of a completion condition (R66). -/
def limitPartMet (s : State) (l : Line) (e : StepEntry) : Bool :=
  (List.finRange 8).all fun j =>
    !e.limitMask.getLsbD j.val || limitReads s l j (if e.limitValue.getLsbD j.val then 1 else 0)

/-- The completion condition, at a value of the step timer (R66). -/
def conditionMet (s : State) (l : Line) (e : StepEntry) (timer : Nat) : Bool :=
  match completionOf e with
  | .limit => limitPartMet s l e
  | .time => stepTimeOf e ≤ timer
  | .limitOrTime => limitPartMet s l e || stepTimeOf e ≤ timer

/-- The feed estimate (R71). -/
def feedEstimate (mass : Nat) : Option Nat → Option Nat → Nat
  | some cur, some prev => min 1000000 (mass * 3600000 / (cur - prev))
  | _, _ => 0

/-- A cycle is complete (R68, R70, R71). -/
def completeCycle (s : State) (l : Line) (g : Gsq) : Gsq :=
  { g with
    state := .pause, step := none, timerStart := none, demands := 0
    previous := g.current.or g.previous
    current := some g.cycleStart
    cycleCount := g.cycleCount + 1
    feed := feedEstimate (massOf (s.tables.combustion.get l)) (some g.cycleStart) (g.current.or g.previous) }

/-- A step ends by its completion condition (R68). -/
def completeStep (s : State) (l : Line) (e : StepEntry) (g : Gsq) : SeqResult :=
  match nextStepOf e with
  | none => (completeCycle s l g, [])
  | some n => startStep s l n g

/-- The step timer (R65). -/
def stepTimer (s : State) (start : Nat) : Nat := s.rgi.runTime - start

/-- The step timer is started, where it is absent and every output of the step is on (R65). -/
def startTimer (s : State) (l : Line) (e : StepEntry) (g : Gsq) : Gsq :=
  if g.timerStart.isNone && outputsOn s l e then { g with timerStart := some s.rgi.runTime } else g

/-- Completion, then timeout, of a step whose timer runs (R66, R67). -/
def evaluateStep (s : State) (l : Line) (n : Nat) (e : StepEntry) (g : Gsq) : SeqResult :=
  match g.timerStart with
  | none => (g, [])
  | some t =>
    if conditionMet s l e (stepTimer s t) then completeStep s l e g
    else if stepTimeoutOf e ≤ stepTimer s t then (enterFault g, [seqFaultEvent s l 2 n])
    else (g, [])

/-! ## The work of one frame (R60) -/

/-- The state's own work (R60 row 5). -/
def seqOwnWork (s : State) (l : Line) (g : Gsq) : SeqResult :=
  match g.state with
  | .stopped => if (s.lsv.get l).pub.state = .waste then (enterPause g s.rgi.runTime .entry, []) else (g, [])
  | .pause => if startDue s l g then startCycle s l g else (g, [])
  | .stepping =>
    match g.step with
    | some (n, e) => evaluateStep s l n e (startTimer s l e g)
    | none => (g, [])
  | .held => (g, [])
  | .fault => (g, [])

/-- The rows of R60 above the state's own work: what they make of the sequencer, none where no row holds. -/
def seqOverriding (s : State) (l : Line) (g : Gsq) : Option SeqResult :=
  if (s.lsv.get l).pub.state.stopsFeeding && g.state.active then some (enterStopped g, [])
  else if g.state.active && (limitConflict s l).isSome then
    some (enterFault g, [seqFaultEvent s l 1 (((limitConflict s l).map Fin.val).getD 0)])
  else if (g.state == .pause || g.state == .stepping) && feedStopCause s l then some (enterHeld g, [])
  else if g.state == .held && !seqHoldCause s l then some (enterPause g s.rgi.runTime .release, [])
  else none

/-- The record as published at the end of a work (R59). -/
def publishSeq (g : Gsq) : Gsq :=
  { g with pub := { state := g.state, demands := g.demands, cycleCount := g.cycleCount, feed := g.feed } }

/-- A work's result put into the state: published, its events raised. -/
def State.withSeqResult (s : State) (l : Line) (r : SeqResult) : State :=
  (s.withGsq l (publishSeq r.1)).raiseAll r.2

/-- The work of a grate sequencer on an accepted frame (R60). Where a RESET_FEEDER taken after a work left STOPPED and the line record
shows WASTE, the next work moves to PAUSE by R61 and publishes PAUSE, though R75 says that it publishes STOPPED: the model's choice
(log 57). -/
def gsqWork (l : Line) (s : State) : State :=
  if s.running then
    s.withSeqResult l ((seqOverriding s l (s.gsq.get l)).getD (seqOwnWork s l (s.gsq.get l)))
  else s

/-- A sequencer at the expiry of the ring-loss timer (R80). -/
def gsqRingLoss (l : Line) (s : State) : State :=
  let g := s.gsq.get l
  if s.running && (g.state == .stepping || g.state == .pause) then s.withSeqResult l (enterHeld g, []) else s

/-! ## RESET_FEEDER (R75), for a line that is named and with the line state byte of the reply given -/

/-- RESET_FEEDER (R75 cases 2 to 4; R196 gives the payload). -/
def takeResetFeederOf (l : Line) (s : State) : State × Status :=
  if ¬ s.running then (s, .refusedState)
  else if (s.gsq.get l).state ≠ .fault then (s, .refusedState)
  else (s.withGsq l (enterStopped (s.gsq.get l)), .done)

/-! ## The commands: what comes about inside a sequencer's own work -/

/-- Whether a work of the sequencer would be its state's own (R60 row 5). -/
def ownWork (s : State) (l : Line) : Bool := s.running && (seqOverriding s l (s.gsq.get l)).isNone

/-- STROKE_CYCLE_START (R63). -/
def execStrokeCycleStart (l : Line) (s : State) : Host.Outcome State Fault Refusal :=
  let g := s.gsq.get l
  .next (if ownWork s l && g.state == .pause && startDue s l g then s.withSeqResult l (startCycle s l g) else s)

/-- The step in progress of a sequencer that is STEPPING. -/
def runningStep (g : Gsq) : Option (Nat × StepEntry) := if g.state = .stepping then g.step else none

/-- STEP_TIMER_START (R65). -/
def execStepTimerStart (l : Line) (s : State) : Host.Outcome State Fault Refusal :=
  let g := s.gsq.get l
  .next
    (match runningStep g with
    | some (_, e) => if ownWork s l then s.withSeqResult l (startTimer s l e g, []) else s
    | none => s)

/-- STEP_COMPLETE (R66, R68). -/
def execStepComplete (l : Line) (s : State) : Host.Outcome State Fault Refusal :=
  let g := s.gsq.get l
  .next
    (match runningStep g, g.timerStart with
    | some (_, e), some t =>
      if ownWork s l && conditionMet s l e (stepTimer s t) then s.withSeqResult l (completeStep s l e g) else s
    | _, _ => s)

/-- STEP_TIMEOUT (R67). -/
def execStepTimeout (l : Line) (s : State) : Host.Outcome State Fault Refusal :=
  let g := s.gsq.get l
  .next
    (match runningStep g, g.timerStart with
    | some (n, e), some t =>
      if ownWork s l && !conditionMet s l e (stepTimer s t) && decide (stepTimeoutOf e ≤ stepTimer s t) then
        s.withSeqResult l (enterFault g, [seqFaultEvent s l 2 n])
      else s
    | _, _ => s)

end Machine
end Sys2Proof
end

