-- ==== Sys2Proof/Machine/Lines.lean ====
section
/-! DEFINITION. The line supervisors: furnace temperature (R87, R88), the transitions of a work (R86, R93, R94), the line
commands (R90 to R94), heating value (R97, R98), firing demand (R99, R100) and the published record (R84, R96, R101).
One definition serves both lines. -/

namespace Sys2Proof
namespace Machine

/-- The combustion group of a line in the active bank (R85). -/
def combustionOf (s : State) (l : Line) : CombustionEntry := s.tables.combustion.get l

/-! ## Furnace temperature (R87) -/

/-- The T2s point as last published. -/
def t2s (s : State) (l : Line) : PointOut := s.point (combustionOf s l).t2sPoint

/-- Low: not usable, or below Tmin. -/
def tempLow (s : State) (l : Line) : Bool :=
  !(t2s s l).quality.usable || (t2s s l).value < tminOf (combustionOf s l)

/-- At or above the qualifying band. -/
def inBand (s : State) (l : Line) : Bool :=
  (t2s s l).quality.usable && tminOf (combustionOf s l) + hysteresisOf (combustionOf s l) ≤ (t2s s l).value

/-- "Above band since" after this work. -/
def bandAfter (s : State) (l : Line) : Option Nat :=
  if inBand s l then some ((s.lsv.get l).bandSince.getD s.rgi.runTime) else none

/-- Whether a band record is qualified in a work (R87). -/
def bandQualified (s : State) (l : Line) (since : Option Nat) : Bool :=
  match since with
  | some t => qualHoldOf (combustionOf s l) ≤ s.rgi.runTime - t
  | none => false

/-! ## Transitions -/

/-- A group whose line effect includes the line shows TRIPPED as last published (R86 row 1, R94). -/
def lineTripCause (s : State) (l : Line) : Bool :=
  (List.finRange 8).any fun g =>
    s.otu.pubGroups.get g && effectIncludes (s.tables.groups.get g).lineEffect l

/-- Whether the burnout has lasted the burnout time (R93). -/
def burnoutOver (s : State) (l : Line) : Bool :=
  match (s.lsv.get l).burnoutStart with
  | some t => burnoutTimeOf (combustionOf s l) * 1000 ≤ s.rgi.runTime - t
  | none => false

/-- The transition of a work: the first row of R86 that holds. -/
def lineTransition (s : State) (l : Line) : Option (LineState × LineCause) :=
  let st := (s.lsv.get l).state
  if st ≠ .tripped ∧ lineTripCause s l then some (.tripped, .trip)
  else if (st = .waste ∨ st = .inhibit) ∧ (s.eau.lines.get l).pub.stop then some (.burnout, .emissionStop)
  else if st = .waste ∧ tempLow s l then some (.inhibit, .tempLow)
  else if st = .inhibit ∧ bandQualified s l (bandAfter s l) then some (.waste, .tempQualified)
  else if st = .burnout ∧ burnoutOver s l then some (.start, .burnoutEnd)
  else none

/-- A line enters a state (R91 to R94): a burnout start is recorded on entry to BURNOUT and discarded otherwise. -/
def enterLine (runTime : Nat) (st : LineState) (c : LineCause) (v : Lsv) : Lsv :=
  { v with state := st, cause := c, burnoutStart := if st = .burnout then some runTime else none }

/-- The LINE_STATE event (R95). -/
def lineStateEvent (s : State) (l : Line) (st : LineState) (c : LineCause) : Event :=
  eventNow s .lineState (st == .tripped) l.number (detail2 st.code c.code)

/-! ## Heating value (R97, R98) -/

/-- One heating value sample, where a completion gives one (R97). -/
def heatingSample (s : State) (l : Line) (st : LineState) : Option Nat :=
  let p := s.point (combustionOf s l).steamPoint
  let feed := (s.gsq.get l).pub.feed
  if st = .waste ∧ 1 ≤ feed ∧ p.quality.usable then
    some (clampNat 1000 30000 (roundHalfUp (p.value.toNat * heatGainOf (combustionOf s l)) (10 * feed)))
  else none

/-- The sample list after a work that leaves the line in a state (R97). -/
def samplesAfter (s : State) (l : Line) (st : LineState) : List Nat :=
  let v := s.lsv.get l
  if (s.gsq.get l).pub.cycleCount = v.lastCount then v.samples
  else match heatingSample s l st with
    | some x => (v.samples ++ [x]).drop ((v.samples ++ [x]).length - 8)
    | none => v.samples

/-- The heating value of a sample list (R98). -/
def heatingValue (s : State) (l : Line) (samples : List Nat) : Nat :=
  if samples = [] then designHeatingOf (combustionOf s l) else roundHalfUp samples.sum samples.length

/-! ## Firing demand and the record -/

/-- A quantity under the feed reduction, where it is active (R100, R101). -/
def reduced (s : State) (l : Line) (x : Nat) : Nat :=
  if (s.eau.lines.get l).pub.reduction then x * (100 - min 100 (s.eau.lines.get l).pub.percent) / 100 else x

/-- The trim output of a line: the published output of loop 0 or 1 (R99). -/
def trimOutput (s : State) (l : Line) : Nat :=
  match l with
  | .one => (s.lpe.loops.get 0).published.toNat
  | .two => (s.lpe.loops.get 1).published.toNat

/-- Base, trimmed and capped feed (R99, R100). -/
def feedBase (s : State) (l : Line) (heating : Nat) : Nat :=
  s.sdu.demand.get l * heatGainOf (combustionOf s l) / (10 * heating)
def feedTrimmed (s : State) (l : Line) (heating : Nat) : Nat := feedBase s l heating * (5000 + trimOutput s l) / 10000
def feedCapped (s : State) (l : Line) (heating : Nat) : Nat :=
  if (s.eau.lines.get l).pub.reduction then
    min (feedTrimmed s l heating) (reduced s l (designFeedOf (combustionOf s l)))
  else feedTrimmed s l heating

/-- Strokes per hour (R100 step 4). -/
def strokesPerHour (s : State) (l : Line) (heating : Nat) : Nat :=
  let m := massOf (combustionOf s l)
  if m = 0 then 0 else min 120 (roundHalfUp (feedCapped s l heating) m)

/-- Available steam (R101). -/
def availableSteam (s : State) (l : Line) (st : LineState) : Nat :=
  if st = .waste ∧ (s.gsq.get l).pub.state ≠ .fault then reduced s l (maxSteamOf (combustionOf s l)) else 0

/-- The record a work publishes (R84, R96, R98, R100, R101). -/
def lineRecord (s : State) (l : Line) (st : LineState) (c : LineCause) (heating : Nat) : LineRecord :=
  { state := st, cause := c
    permission := st == .waste && !(s.eau.lines.get l).pub.stop
    strokes := if st = .waste then strokesPerHour s l heating else 0
    heating := heating
    burner := st.burner
    operating := st.operating
    available := availableSteam s l st
    steamSetPoint := s.sdu.demand.get l
    o2SetPoint := o2SetPointOf (combustionOf s l) }

/-- The work of a line supervisor on an accepted frame (R86). -/
def lsvWork (l : Line) (s : State) : State :=
  if s.running then
    let v := s.lsv.get l
    let band := bandAfter s l
    let v1 := match lineTransition s l with
      | some (st, c) => enterLine s.rgi.runTime st c v
      | none => v
    let samples := samplesAfter s l v1.state
    let events := match lineTransition s l with
      | some (st, c) => [lineStateEvent s l st c]
      | none => []
    (s.withLsv l { v1 with
      bandSince := band
      qualified := bandQualified s l band
      lastCount := (s.gsq.get l).pub.cycleCount
      samples := samples
      pub := lineRecord s l v1.state v1.cause (heatingValue s l samples) }).raiseAll events
  else s

/-- A line supervisor at a restart (R103). -/
def lsvRestart (b : Bank) (l : Line) : Lsv :=
  { lsvReset with pub := { lsvReset.pub with heating := designHeatingOf (b.combustion.get l) } }

/-! ## Line commands (R90 to R94) -/

/-- The line state byte of a reply (R90, R196). -/
def lineStateByte (s : State) (l : Line) : List Byte := nat8 (s.lsv.get l).state.code

/-- A command moves a line, when the telegram is taken (R90, R95). -/
def moveLine (s : State) (l : Line) (st : LineState) (c : LineCause) : State :=
  (s.withLsv l (enterLine s.rgi.runTime st c (s.lsv.get l))).raiseAll [lineStateEvent s l st c]

/-- What a LINE_COMMAND makes of a named line in RUN: the state after it, its status and, for NOT_READY, the reason. -/
abbrev LineAnswer := State × Status × List Byte

/-- START (R91). -/
def lineStart (l : Line) (s : State) : LineAnswer :=
  if (s.lsv.get l).state = .off then (moveLine s l .start .cmdStart, .done, []) else (s, .refusedState, [])

/-- FEED_ON (R92). The emission stop is read as the EAU last published it (log 12). -/
def lineFeedOn (l : Line) (s : State) : LineAnswer :=
  if (s.lsv.get l).state ≠ .start then (s, .refusedState, [])
  else if ¬ (s.lsv.get l).qualified then (s, .notReady, [1])
  else if (s.eau.lines.get l).pub.stop then (s, .notReady, [2])
  else (moveLine s l .waste .cmdFeedOn, .done, [])

/-- FEED_OFF (R93). -/
def lineFeedOff (l : Line) (s : State) : LineAnswer :=
  if (s.lsv.get l).state = .waste ∨ (s.lsv.get l).state = .inhibit then
    (moveLine s l .burnout .cmdFeedOff, .done, [])
  else (s, .refusedState, [])

/-- STOP (R91). -/
def lineStop (l : Line) (s : State) : LineAnswer :=
  if (s.lsv.get l).state = .start then (moveLine s l .off .cmdStop, .done, []) else (s, .refusedState, [])

/-- A RESET taken in OFF, as the EAU takes it (R94, R121): a set emission stop and the exceedance run clear. -/
def resetEmissionStop (l : Line) (s : State) : State :=
  let e := s.eau.lines.get l
  if e.stop then
    (s.withEau { s.eau with lines := s.eau.lines.set l { e with stop := false, run := 0 } }).raiseAll
      [eventNow s .emissionStop true l.number 0]
  else s

/-- RESET (R94). -/
def lineReset (l : Line) (s : State) : LineAnswer :=
  match (s.lsv.get l).state with
  | .tripped => if lineTripCause s l then (s, .refusedState, []) else (moveLine s l .off .cmdReset, .done, [])
  | .off => (resetEmissionStop l s, .done, [])
  | .start => (s, .refusedState, [])
  | .waste => (s, .refusedState, [])
  | .inhibit => (s, .refusedState, [])
  | .burnout => (s, .refusedState, [])

/-- A LINE_COMMAND whose line byte may name no line (R90 row 1), answered with the line state after it. -/
def onLine (line : Byte) (body : Line → State → LineAnswer) (s : State) : State × Answer :=
  match lineOf line with
  | none => (s, { status := .refusedRange, payload := [Config.noLineState line] })
  | some l =>
    let r := body l s
    (r.1, { status := r.2.1, payload := lineStateByte r.1 l ++ r.2.2 })

/-- A command of the LSV, refused in CONFIG (R90 row 4). -/
def inRun (body : Line → State → LineAnswer) (l : Line) (s : State) : LineAnswer :=
  if s.running then body l s else (s, .refusedState, [])

def takeLineStart (line : Byte) (s : State) : State × Answer := onLine line (inRun lineStart) s
def takeLineFeedOn (line : Byte) (s : State) : State × Answer := onLine line (inRun lineFeedOn) s
def takeLineFeedOff (line : Byte) (s : State) : State × Answer := onLine line (inRun lineFeedOff) s
def takeLineStop (line : Byte) (s : State) : State × Answer := onLine line (inRun lineStop) s
def takeLineReset (line : Byte) (s : State) : State × Answer := onLine line (inRun lineReset) s

/-- RESET_FEEDER (R75). -/
def takeResetFeeder (line : Byte) (s : State) : State × Answer :=
  onLine line (fun l s => ((takeResetFeederOf l s).1, (takeResetFeederOf l s).2, [])) s

/-- LINE_COMMAND by its kind byte (R90, R196): a kind other than the six is REFUSED_RANGE. -/
def takeLineCommand (line kind : Byte) (s : State) : State × Answer :=
  match kind.toNat with
  | 0 => takeLineStart line s
  | 1 => takeLineFeedOn line s
  | 2 => takeLineFeedOff line s
  | 3 => takeLineStop line s
  | 4 => takeLineReset line s
  | 5 => takeResetFeeder line s
  | _ => onLine line (fun _ s => (s, .refusedRange, [])) s

/-! ## The commands -/

/-- TEMP_QUALIFIED (R88): the work of the line supervisor, where its transition is the return to WASTE. -/
def execTempQualified (l : Line) (s : State) : Host.Outcome State Fault Refusal :=
  .next (if lineTransition s l = some (.waste, .tempQualified) then lsvWork l s else s)

/-- BURNOUT_END (R93): the work of the line supervisor, where its transition is the end of the burnout. -/
def execBurnoutEnd (l : Line) (s : State) : Host.Outcome State Fault Refusal :=
  .next (if lineTransition s l = some (.start, .burnoutEnd) then lsvWork l s else s)

def execLineCommandStart (tag line : Byte) (s : State) : Host.Outcome State Fault Refusal :=
  .next (answerAlone 12 tag (takeLineStart line s))
def execLineCommandFeedOn (tag line : Byte) (s : State) : Host.Outcome State Fault Refusal :=
  .next (answerAlone 12 tag (takeLineFeedOn line s))
def execLineCommandFeedOff (tag line : Byte) (s : State) : Host.Outcome State Fault Refusal :=
  .next (answerAlone 12 tag (takeLineFeedOff line s))
def execLineCommandStop (tag line : Byte) (s : State) : Host.Outcome State Fault Refusal :=
  .next (answerAlone 12 tag (takeLineStop line s))
def execLineCommandReset (tag line : Byte) (s : State) : Host.Outcome State Fault Refusal :=
  .next (answerAlone 12 tag (takeLineReset line s))
def execResetFeeder (tag line : Byte) (s : State) : Host.Outcome State Fault Refusal :=
  .next (answerAlone 12 tag (takeResetFeeder line s))

end Machine
end Sys2Proof
end

