-- ==== Sys2Proof/Machine/Dosing.lean ====
section
/-! DEFINITION. The reagent dosing unit: set points on the measured basis (R133), feed-forward terms (R134, R135), carbon
(R136, R137) and the limit records (R138, R139). -/

namespace Sys2Proof
namespace Machine

/-! ## Set points (R133) -/

/-- The dosing fields of a line in the active bank (R131). -/
def dosingOf (s : State) (l : Line) : DosingLineEntry := s.tables.dosing.lines.get l

/-- The conversion of a target to the measured basis, for component k. -/
def convertTarget (s : State) (l : Line) (k : Fin 6) (target : Nat) : Nat :=
  min 65535
    (roundHalfUp (target * (10000 - componentH s l k) * (2100 - dryOxygen s l)) (10000 * (2100 - latchedRef s l)))

/-- A set point after a work: converted, or held where the line is not normalizable. -/
def setPointAfter (s : State) (l : Line) (k : Fin 6) (target held : Nat) : Nat :=
  if normalizable s l then convertTarget s l k target else held

/-! ## Terms and carbon -/

/-- The steam flow point of a line, as last published. -/
def steamPointOf (s : State) (l : Line) : PointOut := s.point (combustionOf s l).steamPoint

/-- Thousandths of a product to an output of 0 to 10,000, truncated. -/
def thousandths (n : Nat) : Nat := min 10000 (n / 1000)

/-- The urea term (R134). -/
def ureaTermAfter (s : State) (l : Line) (held : Nat) : Nat :=
  if (steamPointOf s l).quality.usable then
    thousandths ((steamPointOf s l).value.toNat * (dosingOf s l).ureaRatio.toNat)
  else held

/-- The steam flow the lime term uses: the present one, or the last used with a usable quality (R135). -/
def limeSteam (s : State) (l : Line) (last : Nat) : Nat :=
  if (steamPointOf s l).quality.usable then (steamPointOf s l).value.toNat else last

/-- The published normalized SO2 of a line, whatever its flag (R135). Component 2 is SO2. -/
def normalizedSo2 (s : State) (l : Line) : Nat := ((s.eau.lines.get l).inst.get 2).value

/-- The lime term (R135). -/
def limeTermAfter (s : State) (l : Line) (last : Nat) : Nat :=
  thousandths
    (normalizedSo2 s l * (dosingOf s l).so2Weight.toNat + limeSteam s l last * (dosingOf s l).limeBase.toNat)

/-- The carbon demand (R136). -/
def carbonAfter (s : State) (l : Line) (held : Nat) : Nat :=
  let p := s.point (dosingOf s l).flowPoint
  if ¬ (s.lsv.get l).pub.operating then 0
  else if p.quality.usable then thousandths (p.value.toNat * (dosingOf s l).carbonRate.toNat)
  else held

/-! ## Limit records (R138, R139) -/

/-- The dosing loop of a line and reagent: 6 and 7 urea, 8 and 9 lime. -/
def dosingLoop (l : Line) : Reagent → Fin 12
  | .urea => match l with | .one => 6 | .two => 7
  | .lime => match l with | .one => 8 | .two => 9
  | .carbon => 0

/-- The code of a record in the event's detail, and its loop number (0 for carbon). -/
def reagentCode : Reagent → Nat
  | .urea => 1 | .lime => 2 | .carbon => 3
def reagentLoop (l : Line) (r : Reagent) : Nat :=
  match r with
  | .urea => (dosingLoop l .urea).val
  | .lime => (dosingLoop l .lime).val
  | .carbon => 0

/-- Whether a dosing loop stands at its maximum. -/
def loopAtMax (s : State) (i : Fin 12) : Bool :=
  inService (s.tables.loops.get i) && decide (outMaxOf (s.tables.loops.get i) ≤ (s.lpe.loops.get i).published)

/-- Whether the output of a record is at maximum, for a carbon demand as given (R138). -/
def atMaximum (s : State) (l : Line) (carbon : Nat) (r : Reagent) : Bool :=
  (s.lsv.get l).pub.operating &&
    (match r with
    | .urea => loopAtMax s (dosingLoop l .urea)
    | .lime => loopAtMax s (dosingLoop l .lime)
    | .carbon => carbon == 10000)

/-- "At max since" after a work that finds the output at maximum. -/
def sinceAfter (s : State) (r : LimitRecord) : Nat := r.since.getD s.rgi.runTime

/-- Whether a record at maximum is reported in this work. -/
def limitDue (s : State) (r : LimitRecord) : Bool :=
  !r.reported && decide (limitTimeOf s.tables.dosing * 1000 ≤ s.rgi.runTime - sinceAfter s r)

/-- A limit record after a work (R138, R139). Where a swap lowers the out max of a dosing loop that stood at its former out max,
the episode runs on from its kept start, which is the model's choice (log 55). -/
def limitAfter (s : State) (atMax : Bool) (r : LimitRecord) : LimitRecord :=
  if atMax then { since := some (sinceAfter s r), reported := r.reported || limitDue s r }
  else { since := none, reported := false }

/-- The DOSING_LIMIT event. -/
def dosingLimitEvent (s : State) (l : Line) (r : Reagent) : Event :=
  eventNow s .dosingLimit false l.number (detail2 (reagentCode r) (reagentLoop l r))

/-- The event of one limit record, where its work raises one. -/
def limitEvent (s : State) (l : Line) (atMax : Bool) (r : Reagent) (x : LimitRecord) : List Event :=
  if atMax && limitDue s x then [dosingLimitEvent s l r] else []

/-! ## The work (R132) -/

/-- The record of a line after a work. -/
def rduLineAfter (s : State) (l : Line) (x : RduLine) : RduLine :=
  let carbon := carbonAfter s l x.carbon
  { ureaSet := setPointAfter s l 3 (dosingOf s l).noxTarget.toNat x.ureaSet
    limeSet := setPointAfter s l 1 (dosingOf s l).hclTarget.toNat x.limeSet
    ureaTerm := ureaTermAfter s l x.ureaTerm
    limeTerm := limeTermAfter s l x.lastSteam
    carbon := carbon
    urea := limitAfter s (atMaximum s l carbon .urea) x.urea
    lime := limitAfter s (atMaximum s l carbon .lime) x.lime
    carbonLimit := limitAfter s (atMaximum s l carbon .carbon) x.carbonLimit
    lastSteam := limeSteam s l x.lastSteam }

/-- The events of a line's work, in the order of its records. -/
def rduEvents (s : State) (l : Line) (x : RduLine) : List Event :=
  let carbon := carbonAfter s l x.carbon
  limitEvent s l (atMaximum s l carbon .urea) .urea x.urea ++
    limitEvent s l (atMaximum s l carbon .lime) .lime x.lime ++
    limitEvent s l (atMaximum s l carbon .carbon) .carbon x.carbonLimit

/-- The work of the RDU on an accepted frame: both lines in that work, published together (R132). -/
def rduWork (s : State) : State :=
  if s.running then
    (s.withRdu { lines := { one := rduLineAfter s .one s.rdu.lines.one, two := rduLineAfter s .two s.rdu.lines.two } }).raiseAll
      (rduEvents s .one s.rdu.lines.one ++ rduEvents s .two s.rdu.lines.two)
  else s

/-- The dosing records at power-on and restart (R140). -/
def rduReset : Rdu := { lines := { one := rduLineReset, two := rduLineReset } }

/-! ## The command -/

/-- One limit record of a line, and that record replaced. -/
def RduLine.limit (x : RduLine) : Reagent → LimitRecord
  | .urea => x.urea
  | .lime => x.lime
  | .carbon => x.carbonLimit
def RduLine.setLimit (x : RduLine) (r : Reagent) (y : LimitRecord) : RduLine :=
  match r with
  | .urea => { x with urea := y }
  | .lime => { x with lime := y }
  | .carbon => { x with carbonLimit := y }

/-- Whether a limit record is reported at the run time last accepted; the carbon demand is the one last formed. -/
def limitReported (s : State) (l : Line) (r : Reagent) : Bool :=
  let x := s.rdu.lines.get l
  s.running && atMaximum s l x.carbon r && limitDue s (x.limit r)

/-- DOSING_LIMIT (R138): one record's part of the work, where it reports. -/
def execDosingLimit (l : Line) (r : Reagent) (s : State) : Host.Outcome State Fault Refusal :=
  let x := s.rdu.lines.get l
  .next
    (if limitReported s l r then
      (s.withRdu { s.rdu with lines := s.rdu.lines.set l (x.setLimit r (limitAfter s true (x.limit r))) }).raiseAll
        [dosingLimitEvent s l r]
    else s)

end Machine
end Sys2Proof
end

