-- ==== Sys2Proof/Machine/Frame.lean ====
section
/-! DEFINITION. The cycle frame as bytes: frame check and structure (R194, R195), slots, service and reply sections, replies
and event reports as bytes (R196), and what the part writes into a frame it forwards. -/

namespace Sys2Proof
namespace Machine

/-! ## Frame check (R194) -/

/-- One bit enters the register. -/
def crcBit (r : Word) (b : Bool) : Word := if r.msb != b then (r <<< 1) ^^^ 0x04C11DB7 else r <<< 1

/-- One byte enters, least significant bit first. -/
def crcByte (r : Word) (x : Byte) : Word := (List.range 8).foldl (fun r i => crcBit r (x.getLsbD i)) r

/-- The frame check of a list of bytes. -/
def frameCheck (bs : List Byte) : Word := (bs.foldl crcByte 0xFFFFFFFF).reverse ^^^ 0xFFFFFFFF

/-! ## Header fields -/

/-- The bytes of a frame before its frame check. -/
def bodyLength (f : List Byte) : Nat := f.length - 4

def frameInvalid (f : List Byte) : Bool := (byteAt f 2).getLsbD 0
def frameCycle (f : List Byte) : Nat := (halfAt f 3).toNat
/-- Plant time of a frame; a ms of day above 86,399,999 is taken as 86,399,999 (R177). -/
def framePlant (f : List Byte) : PlantTime := { day := (halfAt f 5).toNat, ms := min 86399999 (wordAt f 7).toNat }
def slotCount (f : List Byte) : Nat := (halfAt f 11).toNat
def serviceOffset (f : List Byte) : Nat := (halfAt f 13).toNat
def serviceLength (f : List Byte) : Nat := (halfAt f 15).toNat
def replyOffset (f : List Byte) : Nat := (halfAt f 17).toNat
def replyLength (f : List Byte) : Nat := (halfAt f 19).toNat

/-! ## Structure (R195) -/

/-- A section of length 0 is empty and its offset is not checked. -/
def sectionFits (f : List Byte) (offset length : Nat) : Bool := length == 0 || decide (offset + length ≤ bodyLength f)

/-- A frame whose check holds and whose structure is good, and that is not marked invalid. A frame too short for its header
and check fails (log 16). -/
def frameGood (f : List Byte) : Bool :=
  25 ≤ f.length && halfAt f 0 == 0x5AC3 && !frameInvalid f && wordAt f (bodyLength f) == frameCheck (f.take (bodyLength f)) &&
    slotCount f ≤ 2048 && 21 + 4 * slotCount f ≤ bodyLength f && sectionFits f (serviceOffset f) (serviceLength f) &&
    sectionFits f (replyOffset f) (replyLength f)

/-- Whether two byte ranges share a byte. -/
def rangesMeet (o1 n1 o2 n2 : Nat) : Bool :=
  n1 != 0 && n2 != 0 && decide (o1 < o2 + n2) && decide (o2 < o1 + n1)

/-- The service and reply sections overlap each other or the slot area. -/
def sectionsOverlap (f : List Byte) : Bool :=
  rangesMeet (serviceOffset f) (serviceLength f) (replyOffset f) (replyLength f) ||
    rangesMeet (serviceOffset f) (serviceLength f) 21 (4 * slotCount f) ||
    rangesMeet (replyOffset f) (replyLength f) 21 (4 * slotCount f)

/-- The service section, empty where sections overlap. -/
def serviceSection (f : List Byte) : List Byte :=
  if sectionsOverlap f then [] else (f.drop (serviceOffset f)).take (serviceLength f)

/-- The used length at the start of the reply section. -/
def usedLength (f : List Byte) : Nat := (halfAt f (replyOffset f)).toNat

/-- The space remaining in the reply section, before the part places anything (R184): the used length counts the bytes after
its own two (R194, log 17). -/
def replySpace (f : List Byte) : Nat :=
  if sectionsOverlap f || decide (replyLength f < 2) then 0 else replyLength f - 2 - usedLength f

/-- Sample slot k of a frame, where it has one (R194, R195). -/
def sampleOf (f : List Byte) (k : Nat) : Option Slot :=
  if k < slotCount f then
    some { raw := halfAt f (21 + 4 * k), toggle := (byteAt f (23 + 4 * k)).getLsbD 0,
           fault := (byteAt f (23 + 4 * k)).getLsbD 1 }
  else none

/-! ## Replies and event reports (R196) -/

/-- A reply as bytes, after the ring address of the part. -/
def replyBytes (address : Nat) (r : Reply) : List Byte :=
  nat8 address ++ [r.kind, r.tag] ++ nat8 r.status.code ++ nat16 r.payload.length ++ r.payload

/-- An event report as bytes. -/
def eventBytes (address : Nat) (e : Event) : List Byte :=
  nat8 address ++ [0x80] ++ nat8 e.kind.code ++ flag8 e.high ++ nat16 e.cycle ++ nat16 e.plant.day ++ nat32 e.plant.ms ++
    nat16 e.subject ++ nat16 e.detail

/-! ## What the part writes -/

/-- Bytes written over those of a frame from an offset on. -/
def putBytes (f : List Byte) (offset : Nat) (bs : List Byte) : List Byte :=
  f.take offset ++ bs ++ f.drop (offset + bs.length)

/-- An output slot as bytes (R194). -/
def slotBytes (w : WindowSlot) : List Byte := nat16 w.raw ++ [if w.valid then 0x80 else 0, 0]

/-- The output window written into slots 512 to 575, those below the slot count (R194, R195). -/
def putWindow (f : List Byte) (w : Vector WindowSlot 64) : List Byte :=
  let n := min 64 (slotCount f - 512)
  putBytes f (21 + 4 * 512) ((w.toList.take n).flatMap slotBytes)

/-- The bytes placed behind the used length, and the used length grown by them (R197). -/
def putPlaced (f : List Byte) (placed : List Byte) : List Byte :=
  if placed = [] then f
  else
    putBytes (putBytes f (replyOffset f + 2 + usedLength f) placed) (replyOffset f)
      (nat16 (usedLength f + placed.length))

/-- The frame check recomputed over the contents. -/
def putCheck (f : List Byte) : List Byte :=
  f.take (bodyLength f) ++ wordBytes (frameCheck (f.take (bodyLength f)))

/-- An accepted frame as it leaves (R177). What the part does not write, with the unnamed bits of the flags byte and the bytes no layout
names, leaves as it arrived: the model's choice (log 61). -/
def forwardFrame (f : List Byte) (w : Vector WindowSlot 64) (placed : List Byte) : List Byte :=
  putCheck (putPlaced (if 512 < slotCount f then putWindow f w else f) placed)

/-- A failed frame as it leaves: its invalid mark set, the other bits of its flags byte and its other bytes as they arrived
(R177, R193, R195, log 16). -/
def markInvalid (f : List Byte) : List Byte := f.set 2 (byteAt f 2 ||| 1)

end Machine
end Sys2Proof
end

