-- ==== Sys2Proof/Machine/Loops.lean ====
section
/-! DEFINITION. The loop engine: roles (R38), modes (R45 to R48), the velocity form (R41 to R44), the manual telegrams
(R49, R50), and ring loss, swaps and restarts (R52 to R54). -/

namespace Sys2Proof
namespace Machine

/-! ## Roles (R38) -/

/-- The line of a loop: even numbers from 0 to 9 line 1, odd ones line 2; loops 10 and 11 have none. -/
def loopLine (i : Fin 12) : Option Line :=
  if 10 ≤ i.val then none else if i.val % 2 = 0 then some .one else some .two

/-- The computed set point of a loop's role as last published, if the role has one. -/
def computedSetPoint (s : State) (i : Fin 12) : Option Int :=
  match i.val with
  | 0 => some s.lsv.one.pub.steamSetPoint
  | 1 => some s.lsv.two.pub.steamSetPoint
  | 2 => some s.lsv.one.pub.o2SetPoint
  | 3 => some s.lsv.two.pub.o2SetPoint
  | 6 => some s.rdu.lines.one.ureaSet
  | 7 => some s.rdu.lines.two.ureaSet
  | 8 => some s.rdu.lines.one.limeSet
  | 9 => some s.rdu.lines.two.limeSet
  | 10 => some s.sdu.pubBypassSet
  | 11 => some s.sdu.pubExtractionSet
  | _ => none

/-- The feed-forward term of a loop's role as last published; 0 where the role has none. -/
def roleTerm (s : State) (i : Fin 12) : Int :=
  match i.val with
  | 6 => s.rdu.lines.one.ureaTerm
  | 7 => s.rdu.lines.two.ureaTerm
  | 8 => s.rdu.lines.one.limeTerm
  | 9 => s.rdu.lines.two.limeTerm
  | 11 => s.sdu.pubExtractionTerm
  | _ => 0

/-- The set point the entry selects (R41): the constant where the role has no computed one. -/
def setPointOf (s : State) (i : Fin 12) (e : LoopEntry) : Int :=
  if spComputed e then (computedSetPoint s i).getD (spConstantOf e) else spConstantOf e

/-- The feed-forward term F (R44). -/
def feedForward (s : State) (i : Fin 12) (e : LoopEntry) : Int := if ffRole e then roleTerm s i else 0

/-! ## What decides the mode -/

/-- Whether the line of a dosing loop shows the operating flag false (R46). -/
def lineNotOperating (s : State) (i : Fin 12) : Bool :=
  match loopLine i with
  | some l => 6 ≤ i.val && !(s.lsv.get l).pub.operating
  | none => false

/-- Whether the job of a loop holds it (R46): a trim loop outside WASTE, a dosing loop whose component is in maintenance
hold. Components 3 and 1 are NOX and HCL. -/
def jobHold (s : State) (i : Fin 12) : Bool :=
  match loopLine i with
  | some l =>
    if i.val ≤ 1 then (s.lsv.get l).pub.state != .waste
    else if i.val = 6 ∨ i.val = 7 then ((s.eau.lines.get l).inst.get 3).flag == .maintHold
    else if i.val = 8 ∨ i.val = 9 then ((s.eau.lines.get l).inst.get 1).flag == .maintHold
    else false
  | none => false

/-- A hold cause of R46 in the work of an accepted frame, at which no ring loss stands. -/
def holdCause (s : State) (i : Fin 12) (e : LoopEntry) : Bool :=
  !(s.point e.pvPoint).quality.usable || jobHold s i || lineNotOperating s i

/-- The written value to track: that of the lowest-numbered output record that names the loop and carries its override
mark (R45, R47). -/
def trackedValue (s : State) (i : Fin 12) : Option Nat :=
  ((List.finRange 64).find? fun k =>
    (s.tables.outputs.get k).source.toNat == i.val + 1 && (s.otu.pub.get k).override).map
    fun k => (s.otu.pub.get k).back

/-- Everything the work of one loop reads. -/
structure LoopInputs where
  tCyc : Int
  ti : Int
  tracked : Option Nat
  hold : Bool
  notOperating : Bool
  pv : Int
  sp : Int
  term : Int
deriving DecidableEq, Repr

/-- The inputs of a loop as last published (R40). -/
def loopInputs (s : State) (i : Fin 12) : LoopInputs :=
  let e := s.tables.loops.get i
  { tCyc := s.tables.tCyc, ti := tiOf s.tables e, tracked := trackedValue s i, hold := holdCause s i e,
    notOperating := lineNotOperating s i, pv := (s.point e.pvPoint).value, sp := setPointOf s i e,
    term := feedForward s i e }

/-- The effective mode (R45). -/
def effectiveMode (e : LoopEntry) (x : LoopInputs) (r : LoopRecord) : EffectiveMode :=
  if ¬ inService e then .off
  else if x.tracked.isSome then .track
  else if x.hold then .hold
  else match r.operator with
    | .manual => .manual
    | .auto => .auto

/-! ## The velocity form -/

/-- A value limited to out min and out max. -/
def limitOut (e : LoopEntry) (v : Int) : Int := clampInt (outMinOf e) (outMaxOf e) v

/-- The error (R41). -/
def loopError (e : LoopEntry) (x : LoopInputs) : Int := if loopReversed e then x.pv - x.sp else x.sp - x.pv

/-- N of R42. -/
def loopN (e : LoopEntry) (x : LoopInputs) (err prev : Int) : Int :=
  (e.kp.toNat : Int) * ((err - prev) * x.ti + err * x.tCyc)

/-- A loop computed in AUTO (R41 to R44). -/
def loopAuto (e : LoopEntry) (x : LoopInputs) (r : LoopRecord) : LoopRecord :=
  let err := loopError e x
  let d := 1000 * x.ti
  let total := loopN e x err (r.ePrev.getD err) + r.r
  let du := total / d
  let u := limitOut e (r.u + du)
  { r with
    mode := .auto
    u := u
    r := if u = r.u + du then total - du * d else 0
    ePrev := some err
    published := limitOut e (u + x.term) }

/-- The work of one loop on an accepted frame (R40, R45 to R48). -/
def loopWork (e : LoopEntry) (x : LoopInputs) (r : LoopRecord) : LoopRecord :=
  match effectiveMode e x r with
  | .off =>
    { operator := .auto, mode := .off, u := limitOut e (outMinOf e), r := 0, ePrev := none,
      published := limitOut e (outMinOf e) }
  | .track =>
    let u := limitOut e (x.tracked.getD 0)
    { r with mode := .track, u := u, r := 0, ePrev := none, published := u }
  | .hold =>
    if x.notOperating then { r with mode := .hold, u := outMinOf e, r := 0, ePrev := none, published := outMinOf e }
    else { r with mode := .hold, r := 0, ePrev := none, published := limitOut e (r.u + x.term) }
  | .manual => { r with mode := .manual, r := 0, ePrev := none, published := r.u }
  | .auto => loopAuto e x r

/-- The work of the LPE on an accepted frame: the twelve outputs published together (R40). -/
def lpeWork (s : State) : State :=
  if s.running then
    s.withLpe { loops := tabulate 12 fun i => loopWork (s.tables.loops.get i) (loopInputs s i) (s.lpe.loops.get i) }
  else s

/-! ## Ring loss, swaps, restart -/

/-- The loops at the expiry of the ring-loss timer (R52). -/
def lpeRingLoss (s : State) : State :=
  if s.running then
    s.withLpe { loops := tabulate 12 fun i =>
      let r := s.lpe.loops.get i
      if inService (s.tables.loops.get i) then { r with mode := .hold, r := 0, ePrev := none } else r }
  else s

/-- The effect of a swap on one loop record (R53), from its entry in the bank active before and in the new one. A field is
changed when the value it is taken as (R21, R39) is another one (log 48). -/
def swapLoop (oldBank newBank : Bank) (i : Fin 12) (r : LoopRecord) : LoopRecord :=
  let old := oldBank.loops.get i
  let new := newBank.loops.get i
  if ¬ inService new then r
  else if ¬ inService old then { r with operator := .auto, u := outMinOf new, r := 0, ePrev := none }
  else
    let limitsChanged := outMinOf old ≠ outMinOf new ∨ outMaxOf old ≠ outMaxOf new
    let u := if limitsChanged then limitOut new r.u else r.u
    { r with
      u := u
      r := if tiOf oldBank old ≠ tiOf newBank new ∨ u ≠ r.u then 0 else r.r
      ePrev := if old.pvPoint ≠ new.pvPoint ∨ loopReversed old ≠ loopReversed new then none else r.ePrev }

/-- The effect of a swap on the LPE, from the bank active before and the new one. -/
def lpeSwap (old new : Bank) (p : Lpe) : Lpe :=
  { loops := tabulate 12 fun i => swapLoop old new i (p.loops.get i) }

/-- The loops at a restart (R54). -/
def lpeRestart (b : Bank) (p : Lpe) : Lpe :=
  { loops := tabulate 12 fun i =>
      { p.loops.get i with
        operator := .auto, u := outMinOf (b.loops.get i), r := 0, ePrev := none, published := outMinOf (b.loops.get i) } }

/-! ## Telegrams -/

/-- One loop record replaced. -/
def State.withLoop (s : State) (i : Fin 12) (r : LoopRecord) : State :=
  s.withLpe { s.lpe with loops := s.lpe.loops.set i r }

/-- LOOP_MANUAL (R49). -/
def takeLoopManual (loop : Byte) (value : Half) (s : State) : State × Answer :=
  if h : loop.toNat < 12 then
    let e := s.tables.loops.get ⟨loop.toNat, h⟩
    if 10000 < value.toNat then (s, plain .refusedRange)
    else if ¬ s.running then (s, plain .refusedState)
    else if ¬ inService e then (s, plain .refusedState)
    else
      let u := limitOut e value.toNat
      (s.withLoop ⟨loop.toNat, h⟩ { s.lpe.loops.get ⟨loop.toNat, h⟩ with operator := .manual, u := u, r := 0 },
        { status := .done, payload := nat16 u.toNat })
  else (s, plain .refusedRange)

/-- LOOP_AUTO (R50). -/
def takeLoopAuto (loop : Byte) (s : State) : State × Answer :=
  if h : loop.toNat < 12 then
    if ¬ s.running ∨ ¬ inService (s.tables.loops.get ⟨loop.toNat, h⟩) then (s, plain .refusedState)
    else
      (s.withLoop ⟨loop.toNat, h⟩ { s.lpe.loops.get ⟨loop.toNat, h⟩ with operator := .auto, ePrev := none }, plain .done)
  else (s, plain .refusedRange)

/-! ## The commands -/

def execLoopManual (tag loop : Byte) (value : Half) (s : State) : Host.Outcome State Fault Refusal :=
  .next (answerAlone 10 tag (takeLoopManual loop value s))
def execLoopAuto (tag loop : Byte) (s : State) : Host.Outcome State Fault Refusal :=
  .next (answerAlone 11 tag (takeLoopAuto loop s))

end Machine
end Sys2Proof
end

