-- ==== Sys2Proof/Machine/Steam.lean ====
section
/-! DEFINITION. The steam and dispatch unit: block selection and override (R144 to R147), capability (R148, R149), ramp and
header pressure (R150 to R152), published set points (R153), trip hold (R154) and steam split (R155). -/

namespace Sys2Proof
namespace Machine

/-! ## The block (R144) -/

/-- Whether an in-use block starts at or before a minute. -/
def blockStarted (b : Bank) (minute : Nat) (i : Fin 48) : Bool :=
  yes (b.blocks.get i).inUse && decide (blockStartOf (b.blocks.get i) ≤ minute)

/-- The block with the greatest start minute among those chosen. -/
def latestBlock (b : Bank) (chosen : Fin 48 → Bool) : Option (Fin 48) :=
  (List.finRange 48).foldl (init := none) fun best i =>
    if chosen i then
      match best with
      | none => some i
      | some j => if blockStartOf (b.blocks.get j) < blockStartOf (b.blocks.get i) then some i else some j
    else best

/-- The active block at a minute of plant day. -/
def selectBlock (b : Bank) (minute : Nat) : Option (Fin 48) :=
  match latestBlock b (blockStarted b minute) with
  | some i => some i
  | none => latestBlock b fun i => yes (b.blocks.get i).inUse

/-- Target, ramp and extraction steam of the active block, or of none. -/
def blockTarget (b : Bank) : Option (Fin 48) → Nat
  | some i => blockTargetOf (b.blocks.get i)
  | none => 0
def blockRamp (b : Bank) : Option (Fin 48) → Nat
  | some i => blockRampOf (b.blocks.get i)
  | none => fastRampOf b.turbine
def blockExtraction (b : Bank) : Option (Fin 48) → Nat
  | some i => (b.blocks.get i).extraction.toNat
  | none => 0

/-! ## The work: what it forms before the set point moves -/

/-- The block a work selects, from the plant time of the frame. -/
def workBlock (s : State) : Option (Fin 48) := selectBlock s.tables (s.rgi.plant.ms / 60000)

/-- The override after the selection: it ends where the active block changes (R147). -/
def workOverride (s : State) : Option (Nat × Nat) :=
  if (workBlock s).map Fin.val = s.sdu.block then s.sdu.override else none

/-- Target and ramp in use (R144). -/
def targetInUse (s : State) : Nat := ((workOverride s).map Prod.fst).getD (blockTarget s.tables (workBlock s))
def rampInUse (s : State) : Nat := ((workOverride s).map Prod.snd).getD (blockRamp s.tables (workBlock s))

/-- Extraction steam in use, 0 under the trip hold (R148). -/
def extractionInUse (s : State) : Nat := if s.sdu.tripHold then 0 else blockExtraction s.tables (workBlock s)

/-- Available steam of both lines (R148). -/
def availableBoth (s : State) : Nat := s.lsv.one.pub.available + s.lsv.two.pub.available

/-- The capability (R148). -/
def capabilityOf (s : State) : Nat :=
  if availableBoth s ≤ extractionInUse s then 0
  else min (ratedOf s.tables.turbine) ((availableBoth s - extractionInUse s) * specificOf s.tables.turbine / 10)

/-- The effective target (R148). -/
def effectiveTarget (s : State) : Nat := min (targetInUse s) (min (capabilityOf s) (ratedOf s.tables.turbine))

/-! ## Pressure (R151) -/

/-- The header pressure point as last published. -/
def headerPressure (s : State) : PointOut := s.point s.tables.turbine.pressurePoint

/-- The pressure state after a work: LIMITING or not. -/
def limitingAfter (s : State) : Bool :=
  let p := headerPressure s
  let low : Int := s.tables.turbine.pLow.toNat
  let band : Int := bandOf s.tables.turbine
  if ¬ p.quality.usable then s.sdu.limiting
  else if s.sdu.limiting then !decide (low + band ≤ p.value)
  else decide (p.value < low)

/-- The PRESSURE_LIMIT event of a work. -/
def pressureEvents (s : State) : List Event :=
  if limitingAfter s = s.sdu.limiting then []
  else [eventNow s .pressureLimit false 0 (if limitingAfter s then 1 else 0)]

/-! ## Moving (R149, R150, R152) -/

/-- A value that moves, with the remainder and direction its moves keep. -/
structure Mover where
  value : Nat
  acc : Nat
  dir : RampDir
deriving DecidableEq, Repr

/-- A value at rest, with an empty accumulator. -/
def Mover.rest (v : Nat) : Mover := { value := v, acc := 0, dir := .none }

/-- One move toward a target: the accumulator grows by `growth` and gives a step of 1 for each `unit` in it. The ramp of the
dispatch (R150) and the rate limit of an output (R164) are the same steps. -/
def Mover.toward (m : Mover) (target growth unit : Nat) : Mover :=
  if m.value = target then .rest target
  else
    let dir : RampDir := if m.value < target then .up else .down
    let acc := (if m.dir = dir then m.acc else 0) + growth
    let moved : Mover :=
      { value := if dir = .up then m.value + acc / unit else m.value - acc / unit, acc := acc % unit, dir := dir }
    if dir = .up then (if target ≤ moved.value then .rest target else moved)
    else (if moved.value ≤ target then .rest target else moved)

/-- The set point after the capability clamp (R149) and the change of pressure state (R151). -/
def clampedMover (s : State) : Mover :=
  let d := s.sdu
  if capabilityOf s < d.setPoint then .rest (capabilityOf s)
  else if limitingAfter s ≠ d.limiting then .rest d.setPoint
  else { value := d.setPoint, acc := d.acc, dir := d.dir }

/-- The set point after a work (R150, R152, R154). -/
def moverAfter (s : State) : Mover :=
  if s.sdu.tripHold then .rest 0
  else if limitingAfter s then (clampedMover s).toward 0 (fastRampOf s.tables.turbine * s.rgi.advance) 60000
  else (clampedMover s).toward (effectiveTarget s) (rampInUse s * s.rgi.advance) 60000

/-! ## The steam split (R155) -/

/-- Total, line demands and unmet steam. -/
structure Split where
  total : Nat
  demand : PerLine Nat
  unmet : Nat
deriving DecidableEq, Repr

/-- A total shared between two lines of the given available steam: first shares, caps and spill. -/
def splitSteam (total share one two : Nat) : Split :=
  let first1 := total * share / 100
  let first2 := total - first1
  let capped1 := min first1 one
  let capped2 := min first2 two
  let d1 := capped1 + min (first2 - capped2) (one - capped1)
  let d2 := capped2 + min (first1 - capped1) (two - capped2)
  { total := total, demand := { one := d1, two := d2 }, unmet := total - d1 - d2 }

/-- Turbine steam of a set point, rounded up to a whole 0.1 t/h. -/
def turbineSteam (b : Bank) (setPoint : Nat) : Nat :=
  (setPoint * 10 + specificOf b.turbine - 1) / specificOf b.turbine

/-- The split of a work, for the set point it leaves. -/
def splitOf (s : State) (setPoint : Nat) : Split :=
  splitSteam (min 65535 (turbineSteam s.tables setPoint + extractionInUse s)) (shareOf s.tables.split)
    s.lsv.one.pub.available s.lsv.two.pub.available

/-! ## Publication and the work (R143) -/

/-- The turbine set point source: 0.01 % of the rated output, truncated. -/
def turbineSource (b : Bank) (setPoint : Nat) : Nat :=
  if ratedOf b.turbine = 0 then 0 else setPoint * 10000 / ratedOf b.turbine

/-- The dispatch record after a work, with what it publishes. -/
def sduAfter (s : State) : Sdu :=
  let m := moverAfter s
  let sp := splitOf s m.value
  { block := (workBlock s).map Fin.val
    override := workOverride s
    setPoint := m.value
    acc := m.acc
    dir := m.dir
    limiting := limitingAfter s
    tripHold := s.sdu.tripHold
    capability := capabilityOf s
    target := targetInUse s
    effective := effectiveTarget s
    total := sp.total
    demand := sp.demand
    unmet := sp.unmet
    pubSource := turbineSource s.tables m.value
    pubBypassSet := s.tables.turbine.pHigh.toNat
    pubExtractionSet := s.tables.turbine.extractionSetPoint.toNat
    pubExtractionTerm := min 10000 (extractionInUse s * s.tables.turbine.extractionGain.toNat / 1000) }

/-- The work of the SDU on an accepted frame. -/
def sduWork (s : State) : State :=
  if s.running then (s.withSdu (sduAfter s)).raiseAll (pressureEvents s) else s

/-! ## The trip hold (R154) -/

/-- Whether the published group states show a group with the turbine effect TRIPPED, by the groups of a bank. -/
def turbineTripped (b : Bank) (pubGroups : Vector Bool 8) : Bool :=
  (List.finRange 8).any fun g => pubGroups.get g && yes (b.groups.get g).turbineEffect

/-- The dispatch record after it takes a publication of the group states. -/
def takeGroups (tripped : Bool) (d : Sdu) : Sdu :=
  if tripped then { d with tripHold := true, setPoint := 0, acc := 0, dir := .none, pubSource := 0 }
  else { d with tripHold := false }

/-- The SDU takes the group states as now published, against the active bank. -/
def sduTakeGroups (s : State) : State :=
  s.withSdu (takeGroups (turbineTripped s.tables s.otu.pubGroups) s.sdu)

/-! ## Telegrams (R145, R146) -/

/-- The dispatch status in its 34 bytes (R196, R197): override target and ramp are 0 where none stands. -/
def dispatchStatus (d : Sdu) : List Byte :=
  nat8 (d.block.getD 255) ++ flag8 d.override.isSome ++ nat32 (d.override.getD (0, 0)).1 ++
    nat16 (d.override.getD (0, 0)).2 ++ nat32 d.target ++ nat32 d.effective ++ nat32 d.capability ++ nat32 d.setPoint ++
    flag8 d.limiting ++ flag8 d.tripHold ++ nat16 d.total ++ nat16 d.demand.one ++ nat16 d.demand.two ++ nat16 d.unmet

/-- Whether the arguments of a DISPATCH_OVERRIDE are in range (R145 rows 1 and 2). -/
def overrideInRange (target : Word) (ramp : Half) : Bool :=
  target.toNat ≤ 100000 && 1 ≤ ramp.toNat && ramp.toNat ≤ 10000

/-- The dispatch record with an override. -/
def Sdu.withOverride (d : Sdu) (o : Option (Nat × Nat)) : Sdu := { d with override := o }

/-- DISPATCH_OVERRIDE (R145). -/
def takeDispatchOverride (target : Word) (ramp : Half) (s : State) : State × Answer :=
  if ¬ overrideInRange target ramp then (s, plain .refusedRange)
  else if ¬ s.running then (s, plain .refusedState)
  else
    let d := s.sdu.withOverride (some (min target.toNat (ratedOf s.tables.turbine), ramp.toNat))
    (s.withSdu d, { status := .done, payload := dispatchStatus d })

/-- DISPATCH_CLEAR (R146). The reply shows the dispatch record as it stands after the override is removed, so that it shows none: the
model's choice (log 59). -/
def takeDispatchClear (s : State) : State × Answer :=
  if ¬ s.running then (s, plain .refusedState)
  else (s.withSdu (s.sdu.withOverride none), { status := .done, payload := dispatchStatus (s.sdu.withOverride none) })

/-! ## The commands -/

def execDispatchOverride (tag : Byte) (target : Word) (ramp : Half) (s : State) : Host.Outcome State Fault Refusal :=
  .next (answerAlone 13 tag (takeDispatchOverride target ramp s))
def execDispatchClear (tag : Byte) (s : State) : Host.Outcome State Fault Refusal :=
  .next (answerAlone 14 tag (takeDispatchClear s))

end Machine
end Sys2Proof
end

