-- ==== Sys2Proof/Machine/Outputs.lean ====
section
/-! DEFINITION. The output and trip unit: conversion (R159, R160), trip entries and groups (R169 to R174), the written value
of a record (R162 to R165), pairs (R166 to R168), and swaps and restarts (R175, R176). -/

namespace Sys2Proof
namespace Machine

/-! ## Sources and conversion -/

/-- The value of a source as last published (R159), 0 where the code names none. -/
def sourceValue (s : State) (code : Nat) : Nat :=
  if h : 1 ≤ code ∧ code ≤ 12 then (s.lpe.loops.get ⟨code - 1, by omega⟩).published.toNat
  else if 16 ≤ code ∧ code ≤ 23 then onOff (s.gsq.one.pub.demands.getLsbD (code - 16))
  else if 24 ≤ code ∧ code ≤ 31 then onOff (s.gsq.two.pub.demands.getLsbD (code - 24))
  else if code = 32 then onOff s.lsv.one.pub.burner
  else if code = 33 then onOff s.lsv.two.pub.burner
  else if code = 40 then s.sdu.pubSource
  else if code = 48 then s.rdu.lines.one.carbon
  else if code = 49 then s.rdu.lines.two.carbon
  else 0

/-- A source value as a raw value of a record (R160). -/
def toRaw (e : OutputEntry) (v : Nat) : Nat :=
  e.rawLow.toNat + roundHalfUp (v * (e.rawHigh.toNat - e.rawLow.toNat)) 10000

/-- A written value converted back (R160). -/
def fromRaw (e : OutputEntry) (w : Nat) : Nat :=
  roundHalfUp ((w - e.rawLow.toNat) * 10000) (e.rawHigh.toNat - e.rawLow.toNat)

/-- What a slot receives of a written value (R160). -/
def slotValue (e : OutputEntry) (w : Nat) : Nat := if outputReversed e then 65535 - w else w

/-! ## Trip entries (R169, R170) -/

/-- The entry and the input point of trip entry i, as last published. -/
def tripInput (s : State) (i : Fin 32) : PointOut := s.point (s.tables.trips.get i).point

/-- Whether a trip entry has a usable value. What CLAMPED gives is left open (log 3). -/
def tripUsable (s : State) (i : Fin 32) : Bool :=
  match (tripInput s i).quality with
  | .good => true
  | .forced => true
  | .clamped => Config.clampedTripUsable s.free i.val
  | .stale => false
  | .bad => false

/-- The edge record an entry reads; a point that is not BINARY has no edges. -/
def edgeRead (s : State) (i : Fin 32) : Option EdgeRecord :=
  if pointKind (s.tables.points.get (s.tables.trips.get i).point.toFin) = .binary then (tripInput s i).edge else none

/-- Whether an edge of a direction fits a trigger. -/
def Trigger.fits : Trigger → EdgeRecord → Bool
  | .rising, r => r.rising
  | .falling, r => !r.rising
  | .bothEdges, _ => true
  | .levelHigh, _ => false
  | .levelLow, _ => false

/-- Whether an entry takes an edge in this work: a record read that differs from the one last taken. -/
def edgeTaken (s : State) (i : Fin 32) : Bool :=
  let w := s.otu.trips.get i
  if s.otu.firstWork || w.takePresent then false
  else match edgeRead s i with
    | some r => some r != w.lastEdge && (triggerOf (s.tables.trips.get i)).fits r
    | none => false

/-- A fail-safe level cause: no usable value on an entry with the flag. -/
def failSafeCause (s : State) (i : Fin 32) : Bool := yes (s.tables.trips.get i).failSafe && !tripUsable s i

/-- A level cause from a usable value. -/
def valueCause (s : State) (i : Fin 32) : Bool :=
  tripUsable s i &&
    (match triggerOf (s.tables.trips.get i) with
    | .levelHigh => (tripInput s i).value != 0
    | .levelLow => (tripInput s i).value == 0
    | .rising => false
    | .falling => false
    | .bothEdges => false)

/-- A level cause of an entry. -/
def levelCause (s : State) (i : Fin 32) : Bool := failSafeCause s i || valueCause s i

/-- The working part of an entry after a work: an edge taken is latched in each target group. -/
def tripAfter (s : State) (i : Fin 32) : TripWork :=
  let w := s.otu.trips.get i
  { lastEdge := edgeRead s i
    latches := if edgeTaken s i then w.latches ||| (s.tables.trips.get i).targets else w.latches
    takePresent := false }

/-- Whether an entry targets a group. -/
def targetsGroup (s : State) (i : Fin 32) (g : Fin 8) : Bool := (s.tables.trips.get i).targets.getLsbD g.val

/-! ## Trip groups (R171 to R173) -/

/-- Whether a level cause stands for a group in this work. -/
def groupLevel (s : State) (g : Fin 8) : Bool :=
  (List.finRange 32).any fun i => targetsGroup s i g && levelCause s i

/-- Whether an edge latch stands for a group after the entries of this work. -/
def groupLatched (s : State) (g : Fin 8) : Bool :=
  (List.finRange 32).any fun i => (tripAfter s i).latches.getLsbD g.val

/-- Whether entry i is a cause of a group in this work: a level, or an edge latched in it. -/
def entryCauses (s : State) (g : Fin 8) (i : Fin 32) : Bool := targetsGroup s i g && (levelCause s i || edgeTaken s i)

/-- The kind of a cause: 1 level, 2 edge, 3 fail-safe (R172). Which of a fail-safe level and an edge of the one entry is
named is left open (log 4). -/
def causeKind (s : State) (i : Fin 32) : Nat :=
  if valueCause s i then 1
  else if failSafeCause s i && edgeTaken s i then (if Config.edgeBeforeFailSafe s.free i.val then 2 else 3)
  else if failSafeCause s i then 3
  else 2

/-- The TRIP_TAKEN event of a group. -/
def tripTakenEvent (s : State) (g : Fin 8) : Event :=
  eventNow s .tripTaken true g.val
    (match (List.finRange 32).find? (entryCauses s g) with
    | some i => detail2 i.val (causeKind s i)
    | none => 0)

/-- The TRIP_RELEASED event of a group. -/
def tripReleasedEvent (s : State) (g : Fin 8) (how : Nat) : Event := eventNow s .tripReleased true g.val how

/-- The absent-since of a group at a work, or TRIP_RESET, without a cause. -/
def absentAfter (s : State) (g : TripGroup) : Nat := g.absentSince.getD s.rgi.runTime

/-- Whether the release delay has passed. -/
def delayPassed (s : State) (e : GroupEntry) (g : TripGroup) : Bool :=
  releaseDelayOf e * 1000 ≤ s.rgi.runTime - absentAfter s g

/-- A group that is CLEAR, with no level cause. -/
def groupClear : TripGroup := { tripped := false, absentSince := none, level := false }

/-- A group after a work, with its event (R172, R173). -/
def groupAfter (s : State) (g : Fin 8) : TripGroup × List Event :=
  let x := s.otu.groups.get g
  let e := s.tables.groups.get g
  if groupLevel s g || groupLatched s g then
    ({ tripped := true, absentSince := none, level := groupLevel s g }, if x.tripped then [] else [tripTakenEvent s g])
  else if ¬ x.tripped then (groupClear, [])
  else match releaseModeOf e with
    | .latched => ({ x with level := false }, [])
    | .auto => (groupClear, [tripReleasedEvent s g 2])
    | .autoDelayed =>
      if delayPassed s e x then (groupClear, [tripReleasedEvent s g 3])
      else ({ tripped := true, absentSince := some (absentAfter s x), level := false }, [])

/-- Entries and groups after a work's trip evaluation. -/
def evaluateTrips (s : State) : State :=
  s.withOtu { s.otu with trips := tabulate 32 (tripAfter s), groups := tabulate 8 fun g => (groupAfter s g).1 }

/-- The events of a work's trip evaluation, in the order of the groups. -/
def tripEvents (s : State) : List Event := (List.finRange 8).flatMap fun g => (groupAfter s g).2

/-! ## The written value of a record (R162 to R167), in a state whose trips are evaluated -/

/-- The rows of R162. -/
inductive OutRow where
  | passive
  | hold
  | pairZero
  | limited
deriving DecidableEq, Repr

/-- The entry of an output record in the active bank. -/
def outputOf (s : State) (k : Fin 64) : OutputEntry := s.tables.outputs.get k

/-- Its source value, and that value scaled. -/
def sourceOf (s : State) (k : Fin 64) : Nat := sourceValue s (outputOf s k).source.toNat
def scaledSource (s : State) (k : Fin 64) : Nat := toRaw (outputOf s k) (sourceOf s k)

/-- Raw scale low of a record: the value that counts as written 0 (R160). -/
def rawZero (s : State) (k : Fin 64) : Nat := (outputOf s k).rawLow.toNat

/-- The lowest-numbered TRIPPED group whose affected set holds a record. -/
def tripDecides (s : State) (k : Fin 64) : Option (Fin 8) :=
  (List.finRange 8).find? fun g => (s.otu.groups.get g).tripped && (s.tables.groups.get g).affected.getLsbD k.val

/-- The passive override a group holds for a record, from its lowest slot naming it (R171). A record byte is 0 for an unused
slot and else the record number plus 1 (R198); one above 64 is taken at the nearest end, record 63 (R21, log 8). -/
def overrideFor (e : GroupEntry) (k : Fin 64) : Option Nat :=
  (e.overrides.toList.find? fun o => clampNat 0 64 o.record.toNat == k.val + 1).map fun o =>
    clampNat 0 10000 o.value.toNat

/-- A record's own passive value; 0 for a member of an in-use pair. -/
def ownPassive (s : State) (k : Fin 64) : Nat :=
  if (pairOf s.tables k).isSome then 0 else passiveOf (outputOf s k)

/-- The passive value in force (R162). -/
def passiveInForce (s : State) (k : Fin 64) : Nat :=
  if (pairOf s.tables k).isSome then 0
  else match tripDecides s k with
    | some g => (overrideFor (s.tables.groups.get g) k).getD (passiveOf (outputOf s k))
    | none => passiveOf (outputOf s k)

/-- Rows 1 and 2 of R162, where one of them holds. -/
def upperRow (s : State) (k : Fin 64) : Option OutRow :=
  if s.otu.mode = .passive ∨ (tripDecides s k).isSome then some .passive
  else if s.otu.mode = .hold then some .hold
  else none

/-- A member is demanded active; a record is active at the previous work (R167). -/
def demanded (s : State) (k : Fin 64) : Bool := 0 < sourceOf s k
def wasActive (s : State) (k : Fin 64) : Bool :=
  match (s.otu.records.get k).last with
  | some w => rawZero s k < w
  | none => false

/-- The zero-since a work starts from: the run time of the first work after power-on or restart (R176). -/
def zeroBase (s : State) (k : Fin 64) : Option Nat :=
  if s.otu.firstWork then some s.rgi.runTime else (s.otu.records.get k).zeroSince

/-- The rate-limited value with its accumulator (R164). -/
def limitedMover (s : State) (k : Fin 64) : Mover :=
  let r := s.otu.records.get k
  let rate := (outputOf s k).rateLimit.toNat
  match r.last with
  | none => { value := scaledSource s k, acc := r.acc, dir := r.dir }
  | some w =>
    if rate = 0 then { value := scaledSource s k, acc := r.acc, dir := r.dir }
    else ({ value := w, acc := r.acc, dir := r.dir } : Mover).toward (scaledSource s k) (rate * s.rgi.advance) 1000

/-- What a row writes, with the accumulator it leaves. A HOLD with no last written value writes the record's own passive
value, which is 0 for a pair member (log 15). -/
def rowMover (s : State) (k : Fin 64) : OutRow → Mover
  | .passive => .rest (toRaw (outputOf s k) (passiveInForce s k))
  | .hold => .rest ((s.otu.records.get k).last.getD (toRaw (outputOf s k) (ownPassive s k)))
  | .pairZero => .rest (rawZero s k)
  | .limited => limitedMover s k

/-- Whether a partner has been written 0 for the interval in this work (R166). A partner that neither row 1 nor row 2 decides
is looked at only where the pair rule gives it its rate-limited value. -/
def zeroForInterval (s : State) (p : Fin 16) (m : Fin 64) : Bool :=
  (rowMover s m ((upperRow s m).getD .limited)).value == rawZero s m &&
    decide (intervalOf (s.tables.pairs.get p) ≤ s.rgi.runTime - (zeroBase s m).getD s.rgi.runTime)

/-- Both members demanded active while neither is active (R167 case 3). -/
def bothDemanded (s : State) (k m : Fin 64) : Bool :=
  demanded s k && !wasActive s k && demanded s m && !wasActive s m

/-- The pair rule writes a record 0 (R167 cases 3 and 5). -/
def pairWaits (s : State) (k : Fin 64) : Bool :=
  match pairOf s.tables k with
  | none => false
  | some (p, m) => demanded s k && !wasActive s k && (bothDemanded s k m || !zeroForInterval s p m)

/-- The row of R162 that decides a record. -/
def rowOf (s : State) (k : Fin 64) : OutRow := (upperRow s k).getD (if pairWaits s k then .pairZero else .limited)

/-- The override mark (R165). -/
def overrideMark (s : State) (k : Fin 64) (row : OutRow) : Bool :=
  row != .pairZero && (rowMover s k row).value != scaledSource s k

/-- The zero-since after a work that writes a value (R166). -/
def zeroAfter (s : State) (k : Fin 64) (written : Nat) : Option Nat :=
  if written = rawZero s k then some ((zeroBase s k).getD s.rgi.runTime) else none

/-- A record and its publication, as a row writes them. -/
def recordByRow (s : State) (k : Fin 64) (row : OutRow) : OutRecord × OutPub :=
  let m := rowMover s k row
  ({ last := some m.value, acc := m.acc, dir := m.dir, zeroSince := zeroAfter s k m.value },
    { source := sourceOf s k, written := m.value, back := fromRaw (outputOf s k) m.value,
      override := overrideMark s k row, pending := row == .pairZero })

/-- What is published of a record that writes no slot. -/
def outPubNone : OutPub := { source := 0, written := 0, back := 0, override := false, pending := false }

/-- A record after a work; one whose source is none is not written (R159). -/
def recordAfter (s : State) (k : Fin 64) : OutRecord × OutPub :=
  if hasSource (outputOf s k) then recordByRow s k (rowOf s k)
  else ({ s.otu.records.get k with zeroSince := zeroBase s k }, outPubNone)

/-! ## Conflicts (R168) -/

/-- The members of a pair. -/
def memberA (s : State) (p : Fin 16) : Fin 64 := indexIn 64 (by decide) (s.tables.pairs.get p).memberA.toNat
def memberB (s : State) (p : Fin 16) : Fin 64 := indexIn 64 (by decide) (s.tables.pairs.get p).memberB.toNat

/-- Whether a pair is in conflict after a work: case 3 of R167 acts on a member, or a conflict lasts. -/
def conflictAfter (s : State) (p : Fin 16) : Bool :=
  let a := memberA s p
  let b := memberB s p
  yes (s.tables.pairs.get p).inUse && demanded s a && demanded s b &&
    (s.otu.conflict.get p || (bothDemanded s a b && ((upperRow s a).isNone || (upperRow s b).isNone)))

/-- The PAIR_CONFLICT events of a work, in the order of the pairs. The pair id is the one records carry (R193). -/
def conflictEvents (s : State) : List Event :=
  (List.finRange 16).filterMap fun p =>
    if conflictAfter s p && !s.otu.conflict.get p then
      some (eventNow s .pairConflict false (memberA s p).val (detail2 p.val (memberB s p).val))
    else none

/-! ## The window and the work (R161) -/

/-- A slot written 0 with the valid mark clear. -/
def slotUnused : WindowSlot := { raw := 0, valid := false }

/-- The output window, from the written values of the records. -/
def windowOf (s : State) (pub : Vector OutPub 64) : Vector WindowSlot 64 :=
  tabulate 64 fun j =>
    match (List.finRange 64).find? fun k => hasSource (outputOf s k) && (outputOf s k).window.toNat == j.val with
    | some k => { raw := slotValue (outputOf s k) (pub.get k).written, valid := true }
    | none => slotUnused

/-- The OTU after a work, from a state whose trips are evaluated. -/
def otuAfter (s : State) : Otu :=
  let pub := tabulate 64 fun k => (recordAfter s k).2
  { s.otu with
    records := tabulate 64 fun k => (recordAfter s k).1
    pub := pub
    conflict := tabulate 16 (conflictAfter s)
    pubGroups := tabulate 8 fun g => (s.otu.groups.get g).tripped
    firstWork := false
    window := windowOf s pub }

/-- The work of the OTU on an accepted frame. The SDU takes the group states as they are published (R154). In CONFIG
every slot is written 0 with the valid mark clear (R161). -/
def otuWork (s : State) : State :=
  if s.running then
    let t := evaluateTrips s
    sduTakeGroups ((t.withOtu (otuAfter t)).raiseAll (tripEvents s ++ conflictEvents t))
  else s.withOtu { s.otu with window := Vector.replicate 64 slotUnused }

/-! ## Swaps and restarts -/

/-- Whether a swap starts a record as at a reset (R175). The direction is changed when it is taken as another one (R21, log 48);
the other fields are checked at commit or take every value. -/
def outputRemade (old new : OutputEntry) : Bool :=
  old.window != new.window || old.source != new.source || old.rawLow != new.rawLow || old.rawHigh != new.rawHigh ||
    outputReversed old != outputReversed new || old.pairId != new.pairId

/-- Whether a swap changes a pair (R175), by the values its fields are taken as (log 48). -/
def pairRemade (old new : PairEntry) : Bool :=
  yes old.inUse != yes new.inUse || old.memberA != new.memberA || old.memberB != new.memberB ||
    intervalOf old != intervalOf new

/-- The effect of a swap on the OTU at the swapping frame, from the bank active before and the new one. An entry whose input
point changes takes the present edge record (R175) in the OTU's next work, which is the model's choice (log 53). -/
def otuSwap (old new : Bank) (runTime : Nat) (o : Otu) : Otu :=
  { o with
    records := tabulate 64 fun k =>
      if outputRemade (old.outputs.get k) (new.outputs.get k) then
        { last := none, acc := 0, dir := .none, zeroSince := some runTime }
      else o.records.get k
    pub := tabulate 64 fun k =>
      if outputRemade (old.outputs.get k) (new.outputs.get k) then outPubNone else o.pub.get k
    conflict := tabulate 16 fun p => if pairRemade (old.pairs.get p) (new.pairs.get p) then false else o.conflict.get p
    trips := tabulate 32 fun i =>
      let w := o.trips.get i
      { w with
        latches := w.latches &&& (new.trips.get i).targets
        takePresent := w.takePresent || (old.trips.get i).point != (new.trips.get i).point } }

/-- The OTU at a restart (R176). The window stands as last written until the next work. -/
def otuRestart (o : Otu) : Otu := { otuReset with window := o.window }

/-! ## Telegrams -/

/-- OUTPUT_MODE (R163). -/
def takeOutputMode (mode : Byte) (s : State) : State × Answer :=
  match outputModeOf mode with
  | none => (s, plain .refusedRange)
  | some m =>
    if ¬ s.running then (s, plain .refusedState)
    else (s.withOtu { s.otu with mode := m }, { status := .done, payload := nat8 m.code })

/-- One trip group replaced, and the edge latches of a group cleared. -/
def State.withGroup (s : State) (g : Fin 8) (x : TripGroup) : State :=
  s.withOtu { s.otu with groups := s.otu.groups.set g x }
def clearLatches (g : Fin 8) (o : Otu) : Otu :=
  { o with trips := tabulate 32 fun i =>
      { o.trips.get i with latches := (o.trips.get i).latches &&& ~~~(BitVec.twoPow 8 g.val) } }

/-- A group released by TRIP_RESET (R174), its latches already cleared. -/
def releaseByReset (g : Fin 8) (s : State) : State := (s.withGroup g groupClear).raiseAll [tripReleasedEvent s g 1]

/-- Row 5 of R174: the group's edge latches are cleared, and it is released by its release mode. -/
def resetGroup (g : Fin 8) (s : State) : State :=
  let x := s.otu.groups.get g
  let t := s.withOtu (clearLatches g s.otu)
  match releaseModeOf (s.tables.groups.get g) with
  | .latched => releaseByReset g t
  | .auto => releaseByReset g t
  | .autoDelayed =>
    if releaseDelayOf (s.tables.groups.get g) = 0 then releaseByReset g t
    else t.withGroup g { x with absentSince := some (absentAfter s x) }

/-- TRIP_RESET (R174). -/
def takeTripReset (group : Byte) (s : State) : State × Answer :=
  if h : group.toNat < 8 then
    let g : Fin 8 := ⟨group.toNat, h⟩
    if ¬ s.running then (s, plain .refusedState)
    else if ¬ (s.otu.groups.get g).tripped then (s, plain .done)
    else if (s.otu.groups.get g).level then (s, plain .refusedState)
    else (resetGroup g s, plain .done)
  else (s, plain .refusedRange)

/-! ## The commands -/

def execOutputMode (tag mode : Byte) (s : State) : Host.Outcome State Fault Refusal :=
  .next (answerAlone 15 tag (takeOutputMode mode s))
def execTripReset (tag group : Byte) (s : State) : Host.Outcome State Fault Refusal :=
  .next (answerAlone 16 tag (takeTripReset group s))

/-- Whether a latch stands for a group. -/
def latchStands (s : State) (g : Fin 8) : Bool := (List.finRange 32).any fun i => (s.otu.trips.get i).latches.getLsbD g.val

/-- Whether a group in AUTO_DELAYED is released at the run time last accepted, by the causes of the OTU's last work. -/
def delayedReleaseDue (s : State) (g : Fin 8) : Bool :=
  let x := s.otu.groups.get g
  let e := s.tables.groups.get g
  s.running && x.tripped && !x.level && !latchStands s g && releaseModeOf e == .autoDelayed && delayPassed s e x

/-- A group released by AUTO_DELAYED, and published so. -/
def releaseDelayed (s : State) (g : Fin 8) : State :=
  sduTakeGroups
    ((s.withOtu { s.otu with groups := s.otu.groups.set g groupClear, pubGroups := s.otu.pubGroups.set g false }).raiseAll
      [tripReleasedEvent s g 3])

/-- TRIP_RELEASED_DELAYED (R173): the release of one group, where its delay has passed. -/
def execTripReleasedDelayed (group : Fin 8) (s : State) : Host.Outcome State Fault Refusal :=
  .next (if delayedReleaseDue s group then releaseDelayed s group else s)

/-- Whether the partner of a record stands written 0. -/
def partnerRests (s : State) (k : Fin 64) : Bool :=
  match pairOf s.tables k with
  | some (_, m) => !wasActive s m
  | none => false

/-- Whether a record that was PENDING is let go by the pair rule at the run time last accepted. -/
def intervalElapsed (s : State) (k : Fin 64) : Bool :=
  s.running && !s.otu.firstWork && hasSource (outputOf s k) && (s.otu.pub.get k).pending && demanded s k &&
    !wasActive s k && partnerRests s k && (upperRow s k).isNone && !pairWaits s k

/-- The conflict marks with that of a record's pair as this work leaves it (R168). -/
def settleConflict (s : State) (k : Fin 64) : Vector Bool 16 :=
  match pairOf s.tables k with
  | some (p, _) => s.otu.conflict.set p (conflictAfter s p)
  | none => s.otu.conflict

/-- One record written by the row that decides it: record and publication, and the end of a conflict of its pair. The window is
formed from the publications of all records, as in a work: a record a swap by itself has remade shows its 0 in it. That is the
model's choice (log 38). -/
def writeRecord (s : State) (k : Fin 64) : State :=
  let r := recordByRow s k (rowOf s k)
  let pub := s.otu.pub.set k r.2
  s.withOtu
    { s.otu with
      records := s.otu.records.set k r.1, pub := pub, window := windowOf s pub, conflict := settleConflict s k }

/-- PAIR_INTERVAL_ELAPSED (R167): one waiting pair member's part of the work, where the pair rule lets it go. -/
def execPairIntervalElapsed (record : Fin 64) (s : State) : Host.Outcome State Fault Refusal :=
  .next (if intervalElapsed s record then writeRecord s record else s)

end Machine
end Sys2Proof
end

