-- ==== Sys2Proof/Machine/Points.lean ====
section
/-! DEFINITION. The point intake unit: the evaluation of a sample (R5 to R11), the image (R2 to R4, R12 to R14), forcing
and reading (R15 to R17), and the effects of swaps and restarts (R18, R19). -/

namespace Sys2Proof
namespace Machine

/-! ## Analog samples -/

/-- The raw value of an ANALOG slot, from the raw span to the engineering span (R7). -/
def scaleRaw (e : PointEntry) (raw : Half) : Int :=
  if e.rawHigh = e.rawLow then engLowOf e
  else
    engLowOf e +
      roundHalfAway ((raw.toInt - e.rawLow.toInt) * (engHighOf e - engLowOf e)) (e.rawHigh.toInt - e.rawLow.toInt)

/-- The range clamp, and whether it acted (R8). -/
def rangeClamp (e : PointEntry) (v : Int) : Int × Bool :=
  if rangeHighOf e < v then (rangeHighOf e, true)
  else if v < rangeLowOf e then (rangeLowOf e, true)
  else (v, false)

/-- A sample joins the newest end of the history of the last `n` (R9). -/
def joinHistory (n : Nat) (h : List Int) (v : Int) : List Int := (h ++ [v]).drop ((h ++ [v]).length - n)

/-- The filter output: the mean of the history, rounded half away from zero (R9). -/
def filterOutput (h : List Int) : Int := roundHalfAway h.sum h.length

/-- The value a force publishes (R15): through the range clamp for ANALOG, as requested otherwise. -/
def forcedValue (e : PointEntry) (v : Int) : Int :=
  match pointKind e with
  | .analog => (rangeClamp e v).1
  | .binary => v
  | .counter => v

/-! ## Age, fault and kind path -/

/-- The age after an accepted frame (R5). A slot the frame does not hold shows no toggle, so the frame counts as one in
which the toggle did not change (log 9). -/
def nextAge (w : PointWork) (sample : Option Slot) : Nat :=
  match w.toggle, sample with
  | none, _ => 0
  | some _, none => min 65535 (w.age + 1)
  | some t, some sl => if t = sl.toggle then min 65535 (w.age + 1) else 0

/-- The toggle reference after an accepted frame (R5). -/
def nextToggle (w : PointWork) (sample : Option Slot) : Option Bool :=
  match sample with
  | none => w.toggle
  | some sl => some sl.toggle

/-- What one point's evaluation gives: its working part, its value if it is not held, whether this frame's sample was
the first qualified value. -/
structure Evaluated where
  work : PointWork
  value : Option Int
  seeded : Bool
deriving DecidableEq, Repr

/-- The kind path (R7 to R11), on a working part whose age and toggle are already those of the frame. A forced ANALOG point
that returns from STALE or BAD has its history emptied at the return, as the table of R9 gives, while R15 says that it stays
as it was when the force came: the model's choice (log 46). -/
def kindPath (e : PointEntry) (raw : Half) (w : PointWork) : Evaluated :=
  match pointKind e with
  | .analog =>
    let c := rangeClamp e (scaleRaw e raw)
    let kept := if w.condition.lost then [] else w.history
    let w' := { w with condition := if c.2 then .clamped else .good, history := kept }
    match w.force with
    | some _ => { work := w', value := some c.1, seeded := false }
    | none =>
      let h := joinHistory (depthOf e) (if w.released then [] else kept) c.1
      { work := { w' with history := h, released := false }, value := some (filterOutput h), seeded := false }
  | .binary =>
    let sample : Bool := (raw != 0) != yes e.invert
    let w' := { w with condition := .good, released := false }
    match w.qualified with
    | none =>
      { work := { w' with qualified := some sample, run := 0 }, value := some (if sample then 1 else 0), seeded := true }
    | some q =>
      if sample = q then { work := { w' with run := 0 }, value := some (if q then 1 else 0), seeded := false }
      else if w.run + 1 ≤ qualCountOf e then
        { work := { w' with run := w.run + 1 }, value := some (if q then 1 else 0), seeded := false }
      else
        { work := { w' with qualified := some sample, run := 0 }, value := some (if sample then 1 else 0),
          seeded := false }
  | .counter =>
    { work := { w with condition := .good, released := false }, value := some raw.toNat, seeded := false }

/-- The evaluation of a sample: age and stale check, station fault check, kind path (section 1.3). A slot the frame does
not hold counts as a station fault (R195). -/
def evaluate (e : PointEntry) (sample : Option Slot) (w : PointWork) : Evaluated :=
  let w' := { w with age := nextAge w sample, toggle := nextToggle w sample }
  match sample with
  | none => { work := { w' with condition := .bad, run := 0 }, value := none, seeded := false }
  | some sl =>
    if sl.fault then { work := { w' with condition := .bad, run := 0 }, value := none, seeded := false }
    else if staleLimitOf e ≤ w'.age then
      { work := { w' with condition := .stale, run := 0 }, value := none, seeded := false }
    else kindPath e sl.raw w'

/-- The published quality of an evaluated point (R3). -/
def publishedQuality (w : PointWork) : Quality :=
  match w.force with
  | some _ => .forced
  | none =>
    match w.condition with
    | .bad => .bad
    | .stale => .stale
    | .clamped => .clamped
    | .good => .good

/-- The published value (R3): the forced value, or the value of the frame, or the one held from the previous image. What a
point whose kind a swap has changed holds may be no value of its new kind (R1 against R3, log 27). -/
def publishedValue (e : PointEntry) (ev : Evaluated) (prev : PointOut) : Int :=
  match ev.work.force with
  | some v => forcedValue e v
  | none => ev.value.getD prev.value

/-- Whether the frame's image records an edge (R12): a BINARY point's value differs from the previous image's, other than
by seeding. A first qualified value seeded in the image that first shows a release, or while a forced value is held on, records
none either: the model's choice (log 47). -/
def edgeRecorded (e : PointEntry) (ev : Evaluated) (prev : PointOut) : Bool :=
  pointKind e == .binary && publishedValue e ev prev != prev.value && !(ev.seeded && ev.work.force.isNone)

/-- What the frame makes of one point: working part, published part, and the POINT_QUALITY detail if one is raised
(R14). -/
structure PointResult where
  work : PointWork
  out : PointOut
  event : Option Nat
deriving DecidableEq, Repr

/-- POINT_QUALITY (R14): the condition enters or leaves the set STALE, BAD, or moves within it. -/
def qualityEvent (old new : Condition) : Option Nat :=
  if (old.lost || new.lost) && old != new then some (detail2 old.code new.code) else none

/-- The evaluation of an in-use point in a frame of the given cycle number and run time (R3, R12, R14). An edge is RISING
where the new value is the greater one, also from a previous value that is neither 0 nor 1 (log 49). -/
def evaluatePoint (e : PointEntry) (sample : Option Slot) (cycle runTime : Nat) (w : PointWork) (prev : PointOut) :
    PointResult :=
  let ev := evaluate e sample w
  let value := publishedValue e ev prev
  let isEdge := edgeRecorded e ev prev
  let edge := if isEdge then some { rising := decide (prev.value < value), cycle := cycle, runTime := runTime } else w.edge
  { work := { ev.work with edge := edge }
    out := { value := value, quality := publishedQuality ev.work, age := ev.work.age, edge := edge, newEdge := isEdge }
    event := qualityEvent w.condition ev.work.condition }

/-- One point of an accepted frame's image; a point not in use is published so (R4). -/
def pointOfFrame (s : State) (sample : Nat → Option Slot) (i : Fin 256) : PointResult :=
  let e := s.tables.points.get i
  if yes e.inUse then
    evaluatePoint e (sample (slotOf e)) s.rgi.cycleNow s.rgi.runTime (s.piu.work.get i) (s.piu.image.get i)
  else { work := pointWorkEmpty, out := pointNotInUse, event := none }

/-- The work of the PIU on an accepted frame in RUN (R2): every point evaluated, the image replaced as a whole, the
events in the order of the points (log 10). In CONFIG no point is evaluated (R4). -/
def piuWork (sample : Nat → Option Slot) (s : State) : State :=
  if s.running then
    let rs := tabulate 256 (pointOfFrame s sample)
    let events := (List.finRange 256).filterMap fun i =>
      (rs.get i).event.map fun d => eventNow s .pointQuality false i.val d
    (s.withPiu { work := tabulate 256 fun i => (rs.get i).work, image := tabulate 256 fun i => (rs.get i).out }).raiseAll
      events
  else s

/-- The image of a frame that fails its frame check (R13): every in-use point BAD, value and age kept, no working state
changed. -/
def failedImage (s : State) : State :=
  if s.running then
    s.withPiu { s.piu with
      image := tabulate 256 fun i =>
        if yes (s.tables.points.get i).inUse then { s.piu.image.get i with quality := .bad, newEdge := false }
        else pointNotInUse }
  else s

/-! ## Swaps (R18) -/

/-- Whether a point is taken out of use and put in use again by a change of its entry: slot index, kind, or (for a BINARY
point, R1, log 11) invert flag. A field is changed when the value it is taken as (R21) is another one (log 48). -/
def pointRemade (old new : PointEntry) : Bool :=
  slotOf old != slotOf new || pointKind old != pointKind new ||
    (pointKind new == .binary && yes old.invert != yes new.invert)

/-- Whether any field changed that empties the filter history, by the values they are taken as (log 48). -/
def pointRescaled (old new : PointEntry) : Bool :=
  old.rawLow != new.rawLow || old.rawHigh != new.rawHigh || engLowOf old != engLowOf new ||
    engHighOf old != engHighOf new || rangeLowOf old != rangeLowOf new || rangeHighOf old != rangeHighOf new ||
    depthOf old != depthOf new

/-- The effect of a swap on the working part of one point, its changes told by the values taken (log 48). The image follows
with the PIU's work on the frame. -/
def swapPoint (old new : PointEntry) (w : PointWork) : PointWork :=
  if ¬ yes new.inUse ∨ ¬ yes old.inUse ∨ pointRemade old new then pointWorkEmpty
  else
    { w with
      history := if pointRescaled old new then [] else w.history
      run := if qualCountOf old != qualCountOf new then 0 else w.run }

/-- The effect of a swap on the PIU, from the bank active before and the new one. -/
def piuSwap (old new : Bank) (p : Piu) : Piu :=
  { p with work := tabulate 256 fun i => swapPoint (old.points.get i) (new.points.get i) (p.work.get i) }

/-! ## Telegrams -/

/-- Whether a requested force value is in range for the kind of the point (R15). -/
def forceInRange (e : PointEntry) (v : Int) : Bool :=
  match pointKind e with
  | .binary => v == 0 || v == 1
  | .counter => 0 ≤ v && v ≤ 65535
  | .analog => -32768 ≤ v && v ≤ 65535

/-- The working part of one point replaced. -/
def State.withPointWork (s : State) (i : Fin 256) (w : PointWork) : State :=
  s.withPiu { s.piu with work := s.piu.work.set i w }

/-- POINT_FORCE (R15). -/
def takePointForce (point : Half) (value : Word) (s : State) : State × Answer :=
  if h : point.toNat < 256 then
    let e := s.tables.points.get ⟨point.toNat, h⟩
    if ¬ s.running ∨ ¬ yes e.inUse then (s, plain .refusedState)
    else if ¬ forceInRange e value.toInt then (s, plain .refusedRange)
    else
      (s.withPointWork ⟨point.toNat, h⟩ { s.piu.work.get ⟨point.toNat, h⟩ with force := some value.toInt }, plain .done)
  else (s, plain .refusedRange)

/-- POINT_RELEASE (R16). -/
def takePointRelease (point : Half) (s : State) : State × Answer :=
  if h : point.toNat < 256 then
    let w := s.piu.work.get ⟨point.toNat, h⟩
    if w.force.isNone then (s, plain .refusedState)
    else (s.withPointWork ⟨point.toNat, h⟩ { w with force := none, released := true }, plain .done)
  else (s, plain .refusedRange)

/-- How many points a POINT_READ returns (R17), none where it is refused. -/
def pointReadCount (first last : Half) : Option Nat :=
  let last := min last.toNat 255
  if last < first.toNat then none else some (min (last - first.toNat + 1) 8)

/-- A point as POINT_READ returns it: value, quality, age (R197). -/
def pointBytes (p : PointOut) : List Byte := int32 p.value ++ nat8 p.quality.code ++ nat16 p.age

/-- POINT_READ (R17). -/
def takePointRead (first last : Half) (s : State) : State × Answer :=
  match pointReadCount first last with
  | none => (s, plain .refusedRange)
  | some n =>
    let points := (List.range n).flatMap fun k =>
      pointBytes (s.piu.image.get (indexIn 256 (by decide) (first.toNat + k)))
    (s, { status := .done, payload := nat8 n ++ points })

/-! ## The commands -/

/-- One point evaluated by itself from a sample: its working part, its entry of the image and its event. -/
def evaluateAlone (s : State) (i : Fin 256) (r : PointResult) : State :=
  (s.withPiu { work := s.piu.work.set i r.work, image := s.piu.image.set i r.out }).raiseAll
    ((r.event.map fun d => eventNow s .pointQuality false i.val d).toList)

/-- The evaluation of one point from the sample a command carries. -/
def resultOf (s : State) (i : Fin 256) (sample : Slot) : PointResult :=
  evaluatePoint (s.tables.points.get i) (some sample) s.rgi.cycleNow s.rgi.runTime (s.piu.work.get i)
    (s.piu.image.get i)

/-- Whether this sample is the one at which the point goes STALE (R5). -/
def goesStale (s : State) (i : Fin 256) (sample : Slot) : Bool :=
  s.running && yes (s.tables.points.get i).inUse && (s.piu.work.get i).condition != .stale &&
    (resultOf s i sample).work.condition == .stale

/-- POINT_STALE (R5): the point's evaluation, where its age reaches the stale limit by this sample. -/
def execPointStale (point : Fin 256) (sample : Slot) (s : State) : Host.Outcome State Fault Refusal :=
  .next (if goesStale s point sample then evaluateAlone s point (resultOf s point sample) else s)

/-- Whether this sample changes the qualified value of a BINARY point that has one (R11). -/
def qualifiesChange (s : State) (i : Fin 256) (sample : Slot) : Bool :=
  s.running && yes (s.tables.points.get i).inUse && pointKind (s.tables.points.get i) == .binary &&
    (s.piu.work.get i).qualified.isSome && (resultOf s i sample).work.qualified != (s.piu.work.get i).qualified

/-- BINARY_QUALIFIED_CHANGE (R11): the point's evaluation, where this sample becomes the qualified value. -/
def execBinaryQualifiedChange (point : Fin 256) (sample : Slot) (s : State) : Host.Outcome State Fault Refusal :=
  .next (if qualifiesChange s point sample then evaluateAlone s point (resultOf s point sample) else s)

def execPointRead (tag : Byte) (first last : Half) (s : State) : Host.Outcome State Fault Refusal :=
  .next (answerAlone 7 tag (takePointRead first last s))
def execPointForce (tag : Byte) (point : Half) (value : Word) (s : State) : Host.Outcome State Fault Refusal :=
  .next (answerAlone 8 tag (takePointForce point value s))
def execPointRelease (tag : Byte) (point : Half) (s : State) : Host.Outcome State Fault Refusal :=
  .next (answerAlone 9 tag (takePointRelease point s))

end Machine
end Sys2Proof
end

