-- ==== Sys2Proof/Machine/Tables.lean ====
section
/-! DEFINITION. The table bank store: reading and writing one entry, the written marks (R22), commit validation
(R26 to R29) and the six table telegrams (R23 to R25, R30, R32, R33). -/

namespace Sys2Proof
namespace Machine

/-! ## One entry of a bank -/

/-- An entry of a vector replaced, where the index is one of it. -/
def putAt {α : Type} {n : Nat} (v : Vector α n) (i : Nat) (x : α) : Vector α n :=
  if h : i < n then v.set i x h else v

/-- Replaces entry `i` of table `t` by the entry the bytes carry (R24); a pair of numbers that names no entry changes
nothing. -/
def Bank.putEntry (b : Bank) (t i : Nat) (bs : List Byte) : Bank :=
  match t, i with
  | 0, 0 => { b with ring := decodeRing bs }
  | 0, 1 => { b with combustion := b.combustion.set .one (decodeCombustion bs) }
  | 0, 2 => { b with combustion := b.combustion.set .two (decodeCombustion bs) }
  | 0, 3 => { b with turbine := decodeTurbine bs }
  | 0, 4 => { b with split := decodeSplit bs }
  | 0, 5 => { b with emission := b.emission.set .one (decodeEmission bs) }
  | 0, 6 => { b with emission := b.emission.set .two (decodeEmission bs) }
  | 0, 7 => { b with dosing := decodeDosing bs }
  | 1, i => { b with points := putAt b.points i (decodePoint bs) }
  | 2, i => { b with outputs := putAt b.outputs i (decodeOutput bs) }
  | 3, i => { b with pairs := putAt b.pairs i (decodePair bs) }
  | 4, i => { b with trips := putAt b.trips i (decodeTrip bs) }
  | 5, i => { b with groups := putAt b.groups i (decodeGroup bs) }
  | 6, i => { b with loops := putAt b.loops i (decodeLoop bs) }
  | 7, i => { b with steps := putAt b.steps i (decodeStep bs) }
  | 8, i => { b with blocks := putAt b.blocks i (decodeBlock bs) }
  | 9, i => { b with components := putAt b.components i (decodeComponent bs) }
  | _, _ => b

/-- The bytes of an entry of a vector, none where the index is not one of it. -/
def bytesAt {α : Type} {n : Nat} (v : Vector α n) (enc : α → List Byte) (i : Nat) : List Byte :=
  if h : i < n then enc (v.get ⟨i, h⟩) else []

/-- The bytes of entry `i` of table `t` (R33, R198). -/
def Bank.entryBytes (b : Bank) (t i : Nat) : List Byte :=
  match t, i with
  | 0, 0 => encodeRing b.ring
  | 0, 1 => encodeCombustion b.combustion.one
  | 0, 2 => encodeCombustion b.combustion.two
  | 0, 3 => encodeTurbine b.turbine
  | 0, 4 => encodeSplit b.split
  | 0, 5 => encodeEmission b.emission.one
  | 0, 6 => encodeEmission b.emission.two
  | 0, 7 => encodeDosing b.dosing
  | 1, i => bytesAt b.points encodePoint i
  | 2, i => bytesAt b.outputs encodeOutput i
  | 3, i => bytesAt b.pairs encodePair i
  | 4, i => bytesAt b.trips encodeTrip i
  | 5, i => bytesAt b.groups encodeGroup i
  | 6, i => bytesAt b.loops encodeLoop i
  | 7, i => bytesAt b.steps encodeStep i
  | 8, i => bytesAt b.blocks encodeBlock i
  | 9, i => bytesAt b.components encodeComponent i
  | _, _ => []

/-! ## Written marks (R22) -/

/-- The place of a table's first entry among the 488 marks. -/
def markBase : Nat → Nat
  | 0 => 0 | 1 => 8 | 2 => 264 | 3 => 328 | 4 => 344 | 5 => 376 | 6 => 384 | 7 => 396 | 8 => 428 | 9 => 476
  | _ => 488

/-- The written mark of an entry. -/
def Tbs.mark (t : Tbs) (table index : Nat) : Bool := t.marks[markBase table + index]?.getD false

/-- An entry marked written: the count grows where the mark was not set. -/
def Tbs.setMark (t : Tbs) (table index : Nat) : Tbs :=
  if t.mark table index then t
  else { t with marks := putAt t.marks (markBase table + index) true, written := t.written + 1 }

/-- All marks cleared together, and the count 0. -/
def Tbs.clearMarks (t : Tbs) : Tbs := { t with marks := Vector.replicate 488 false, written := 0 }

/-! ## Commit validation (R26 to R29): for each table, whether an entry breaks a check -/

/-- Sources an output record may name (R159). -/
def sourceListed (c : Nat) : Bool :=
  (1 ≤ c && c ≤ 12) || (16 ≤ c && c ≤ 33) || c == 40 || c == 48 || c == 49

/-- A check of T0 groups 5 and 6 (R27). -/
def emissionBroken (e : EmissionEntry) : Bool :=
  !(e.o2Ref.toNat < e.o2Ceil.toNat && e.o2Ceil.toNat ≤ 2000 && e.release.toNat < e.action.toNat)

/-- The checks of T0 (R27). -/
def groupBroken (b : Bank) (i : Nat) : Bool :=
  match i with
  | 0 => !(4 ≤ b.ring.tCyc.toNat && b.ring.tCyc.toNat ≤ 50 && 20 ≤ b.ring.lossTime.toNat &&
      b.ring.lossTime.toNat ≤ 2000)
  | 4 => !(b.split.share.toNat ≤ 100)
  | 5 => emissionBroken b.emission.one
  | 6 => emissionBroken b.emission.two
  | _ => false

/-- The check of T1 (R28). -/
def pointBroken (e : PointEntry) : Bool := yes e.inUse && !(e.slot.toNat ≤ 511)

/-- Whether T3 pair `p` is in use and names record `k` as a member. -/
def pairNames (b : Bank) (p k : Nat) : Bool :=
  match b.pairs[p]? with
  | some e => yes e.inUse && (e.memberA.toNat == k || e.memberB.toNat == k)
  | none => false

/-- The checks of T2 (R28) on record `k`. -/
def outputBroken (b : Bank) (k : Fin 64) : Bool :=
  let e := b.outputs.get k
  if hasSource e then
    !(sourceListed e.source.toNat && e.window.toNat ≤ 63 && e.rawLow.toNat < e.rawHigh.toNat &&
      (List.finRange 64).all (fun j => !(j < k && hasSource (b.outputs.get j) && (b.outputs.get j).window == e.window)) &&
      (e.pairId == 0 || pairNames b (e.pairId.toNat - 1) k.val))
  else e.pairId != 0

/-- Whether output record `m` carries the id of pair `p`. -/
def carriesPair (b : Bank) (p m : Nat) : Bool :=
  match b.outputs[m]? with
  | some e => e.pairId.toNat == p + 1
  | none => false

/-- The checks of T3 (R28) on pair `p`. -/
def pairBroken (b : Bank) (p : Fin 16) : Bool :=
  let e := b.pairs.get p
  yes e.inUse &&
    !(e.memberA != e.memberB && e.memberA.toNat < 64 && e.memberB.toNat < 64 &&
      (List.finRange 16).all (fun q =>
        !(q < p && (pairNames b q.val e.memberA.toNat || pairNames b q.val e.memberB.toNat))) &&
      carriesPair b p.val e.memberA.toNat && carriesPair b p.val e.memberB.toNat)

/-- The checks of T6 (R29). -/
def loopBroken (b : Bank) (e : LoopEntry) : Bool :=
  inService e && !(b.ring.tCyc.toNat ≤ e.ti.toNat && e.outMin.toNat < e.outMax.toNat)

/-- Whether a set of hydraulic outputs holds both members of a direction pair (R29). -/
def bothDirections (outputs : Byte) : Bool :=
  (outputs.getLsbD 0 && outputs.getLsbD 1) || (outputs.getLsbD 2 && outputs.getLsbD 3) ||
    (outputs.getLsbD 4 && outputs.getLsbD 5) || (outputs.getLsbD 6 && outputs.getLsbD 7)

/-- Whether a next step field is END or names an in-use step of the line (R29). -/
def nextStepGood (b : Bank) (l : Line) (next : Byte) : Bool :=
  if next = 255 then true
  else if h : next.toNat < 16 then yes (stepEntry b l ⟨next.toNat, h⟩).inUse
  else false

/-- The checks of T7 (R29) on entry `i`. -/
def stepBroken (b : Bank) (i : Fin 32) : Bool :=
  let e := b.steps.get i
  let l : Line := if i.val < 16 then .one else .two
  yes e.inUse &&
    !(nextStepGood b l e.next && !bothDirections e.outputs &&
      (completionOf e == .limit || e.time.toNat ≤ e.timeout.toNat))

/-- The checks of T8 (R29) on block `i`. -/
def blockBroken (b : Bank) (i : Fin 48) : Bool :=
  let e := b.blocks.get i
  yes e.inUse &&
    !(1 ≤ e.ramp.toNat && e.target.toNat ≤ b.turbine.rated.toNat && e.start.toNat ≤ 1439 &&
      (List.finRange 48).all (fun j =>
        !(j < i && yes (b.blocks.get j).inUse && e.start.toNat ≤ (b.blocks.get j).start.toNat)))

/-- Whether entry `i` of table `t` breaks any check (R26; T4, T5 and T9 have none). -/
def entryBroken (b : Bank) (t i : Nat) : Bool :=
  match t with
  | 0 => groupBroken b i
  | 1 => if h : i < 256 then pointBroken (b.points.get ⟨i, h⟩) else false
  | 2 => if h : i < 64 then outputBroken b ⟨i, h⟩ else false
  | 3 => if h : i < 16 then pairBroken b ⟨i, h⟩ else false
  | 6 => if h : i < 12 then loopBroken b (b.loops.get ⟨i, h⟩) else false
  | 7 => if h : i < 32 then stepBroken b ⟨i, h⟩ else false
  | 8 => if h : i < 48 then blockBroken b ⟨i, h⟩ else false
  | _ => false

/-- The entries of a bank in the visiting order: T0 to T9, each from index 0 upward (R26). -/
def visitingOrder : List (Nat × Nat) :=
  (List.range 10).flatMap fun t => (List.range (entryCount t)).map fun i => (t, i)

/-- The first offending entry of a bank, if any (R26). -/
def firstOffender (b : Bank) : Option (Nat × Nat) := visitingOrder.find? fun p => entryBroken b p.1 p.2

/-! ## The table telegrams -/

/-- TABLE_OPEN (R23). -/
def takeTableOpen (s : State) : State × Answer :=
  if s.tbs.shadow = .swapPending then (s, plain .collision)
  else (s.withTbs { (s.tbs.withShadow s.tbs.activeBank).clearMarks with shadow := .opened }, plain .done)

/-- TABLE_WRITE (R24). -/
def takeTableWrite (table index : Byte) (entry : List Byte) (s : State) : State × Answer :=
  match s.tbs.shadow with
  | .closed => (s, plain .notOpen)
  | .committed => (s, plain .refusedState)
  | .swapPending => (s, plain .collision)
  | .opened =>
    if 10 ≤ table.toNat then (s, plain .unknownTable)
    else if entryCount table.toNat ≤ index.toNat then (s, plain .refusedRange)
    else if entry.length ≠ entryLength table.toNat then (s, plain .refusedRange)
    else
      (s.withTbs ((s.tbs.withShadow (s.tbs.shadowBank.putEntry table.toNat index.toNat entry)).setMark
          table.toNat index.toNat),
        plain .done)

/-- TABLE_READ (R33). -/
def takeTableRead (bank table index : Byte) (s : State) : State × Answer :=
  if 2 ≤ bank.toNat then (s, plain .refusedRange)
  else if 10 ≤ table.toNat then (s, plain .unknownTable)
  else if entryCount table.toNat ≤ index.toNat then (s, plain .refusedRange)
  else
    let b := if bank = 0 then s.tbs.activeBank else s.tbs.shadowBank
    let mark := if bank = 0 then false else s.tbs.mark table.toNat index.toNat
    (s, { status := .done, payload := [table, index] ++ flag8 mark ++ b.entryBytes table.toNat index.toNat })

/-- TABLE_COMMIT (R25). -/
def takeTableCommit (expected : Half) (s : State) : State × Answer :=
  if s.tbs.shadow ≠ .opened then (s, plain .refusedState)
  else if expected.toNat ≠ s.tbs.written then (s, { status := .countMismatch, payload := nat16 s.tbs.written })
  else
    match firstOffender s.tbs.shadowBank with
    | some p => (s, { status := .inconsistent, payload := nat8 p.1 ++ nat8 p.2 })
    | none => (s.withTbs { s.tbs with shadow := .committed }, plain .done)

/-- TABLE_ABANDON (R32). -/
def takeTableAbandon (s : State) : State × Answer :=
  match s.tbs.shadow with
  | .closed => (s, plain .done)
  | .swapPending => (s, plain .collision)
  | .opened => (s.withTbs { s.tbs.clearMarks with shadow := .closed }, plain .done)
  | .committed => (s.withTbs { s.tbs.clearMarks with shadow := .closed }, plain .done)

/-- BANK_SWAP (R30). -/
def takeBankSwap (s : State) : State × Answer :=
  if s.tbs.shadow = .committed then (s.withTbs { s.tbs with shadow := .swapPending }, plain .done)
  else (s, plain .refusedState)

/-- The swap itself, at a frame's arrival (R31, R34): the pointer flips, the shadow closes, the marks clear, and the
device is in RUN. -/
def Tbs.swap (t : Tbs) : Tbs :=
  { t.clearMarks with active := t.active.other, shadow := .closed, bankValid := true, device := .run }

/-- The store at a restart (R37). -/
def Tbs.restart (t : Tbs) : Tbs := { t.clearMarks with shadow := .closed, device := .run }

/-! ## The commands -/

def execTableOpen (tag : Byte) (s : State) : Host.Outcome State Fault Refusal :=
  .next (answerAlone 1 tag (takeTableOpen s))
def execTableWrite (tag table index : Byte) (entry : List Byte) (s : State) : Host.Outcome State Fault Refusal :=
  .next (answerAlone 2 tag (takeTableWrite table index entry s))
def execTableRead (tag bank table index : Byte) (s : State) : Host.Outcome State Fault Refusal :=
  .next (answerAlone 3 tag (takeTableRead bank table index s))
def execTableCommit (tag : Byte) (expected : Half) (s : State) : Host.Outcome State Fault Refusal :=
  .next (answerAlone 4 tag (takeTableCommit expected s))
def execTableAbandon (tag : Byte) (s : State) : Host.Outcome State Fault Refusal :=
  .next (answerAlone 5 tag (takeTableAbandon s))
def execBankSwap (tag : Byte) (s : State) : Host.Outcome State Fault Refusal :=
  .next (answerAlone 6 tag (takeBankSwap s))

end Machine
end Sys2Proof
end

