-- ==== Sys2Proof/Machine/Ring.lean ====
section
/-! DEFINITION. The ring interface: classification and run time (R177, R178), restart and swap at arrival (R179), ring loss
(R180, R181), telegrams (R182 to R187), event placement (R191), and the handling of one whole frame. -/

namespace Sys2Proof
namespace Machine

/-! ## Power-on, restart, swap -/

/-- The part at power-on with the address its pins read (R192). Commands still waiting are not the part's. -/
def powerOnState (pins : BitVec 7) (s : State) : State :=
  { State.reset with
    rgi := { rgiReset with address := pins.toNat }
    pending := s.pending
    free := s.free }

/-- A restart as it takes effect (R187): each block as its chapter gives, from the active bank. -/
def restartPart (s : State) : State :=
  { s with
    rgi := { s.rgi with restartPending := false, resetCause := .powerOnAndRestart }
    tbs := s.tbs.restart
    piu := piuReset
    lpe := lpeRestart s.tables s.lpe
    gsq := { one := gsqReset, two := gsqReset }
    lsv := { one := lsvRestart s.tables .one, two := lsvRestart s.tables .two }
    eau := eauRestart s.tables s.eau
    rdu := rduReset
    sdu := sduReset
    otu := otuRestart s.otu }

/-- The blocks carried over to a new bank: PIU (R18), LPE (R53), EAU at the first frame in RUN (R128), OTU (R175) and the
trip hold of the SDU (R157). -/
def carryOver (old new : Bank) (s : State) : State :=
  { s with
    piu := piuSwap old new s.piu
    lpe := lpeSwap old new s.lpe
    eau := if s.running then s.eau else latchEmissions new s.eau
    otu := otuSwap old new s.rgi.runTime s.otu
    sdu := takeGroups (turbineTripped new s.otu.pubGroups) s.sdu }

/-- The BANK_SWAPPED event (R31): its subject is left open (log 6). -/
def bankSwappedEvent (s : State) : Event :=
  eventNow s .bankSwapped false (Config.bankSwappedSubject s.free).toNat s.tbs.active.other.code

/-- A pending swap as it takes effect (R31). -/
def swapBanks (s : State) : State :=
  ((carryOver s.tables s.tbs.swap.activeBank s).withTbs s.tbs.swap).raiseAll [bankSwappedEvent s]

/-- What is pending takes effect at an arrival: a restart, which drops a pending swap, else a swap (R179). -/
def takePendingEffect (s : State) : State :=
  if s.rgi.restartPending then restartPart s
  else if s.tbs.shadow = .swapPending then swapBanks s
  else s

/-! ## Classification (R177) and arrival -/

/-- The classes of a frame. -/
inductive FrameClass where
  | failed
  | first
  | duplicate
  | regular
  | resync
deriving DecidableEq, Repr

/-- The cycle number difference d, 0 before the first accepted frame. -/
def cycleDiff (s : State) (f : List Byte) : Nat :=
  match s.rgi.lastCycle with
  | none => 0
  | some c => (frameCycle f + 65536 - c) % 65536

/-- The class of a frame. -/
def classify (s : State) (f : List Byte) : FrameClass :=
  if ¬ frameGood f then .failed
  else match s.rgi.lastCycle with
    | none => .first
    | some _ =>
      if cycleDiff s f = 0 then .duplicate else if cycleDiff s f ≤ 1000 then .regular else .resync

/-- T_cyc as R178 counts it. -/
def countedCycle (s : State) : Nat := if s.tbs.bankValid then s.tables.tCyc else 0

/-- The run time advance A of an accepted frame. -/
def advanceOf (s : State) (f : List Byte) : Nat :=
  match classify s f with
  | .regular => cycleDiff s f * countedCycle s
  | .first => countedCycle s
  | .resync => countedCycle s
  | .failed => 0
  | .duplicate => 0

/-- The bookkeeping of an accepted frame (R178, R180, R181): the ring is SYNCED from its arrival on. -/
def bookFrame (s : State) (f : List Byte) : State :=
  s.withRgi
    { s.rgi with
      ring := .synced, lastCycle := some (frameCycle f), plant := framePlant f
      runTime := s.rgi.runTime + advanceOf s f, advance := advanceOf s f }

/-- The events of an arrival: TIME_JUMP of a resynchronization, RING_RESTORED; `s` is the state before it. -/
def arrivalEvents (s : State) (f : List Byte) : List Event :=
  (if classify s f = .resync then [eventNow (bookFrame s f) .timeJump false 0 (detail2 3 0)] else []) ++
    (if s.rgi.ring = .lost then [eventNow (bookFrame s f) .ringRestored true 0 (cycleDiff s f)] else [])

/-- The ring-loss time in force (R180). -/
def lossTimeInForce (s : State) : Nat := if s.tbs.bankValid then s.tables.lossTime else 2000

/-- The ring-loss timer started afresh. -/
def startTimerAfresh (s : State) : State := s.withRgi { s.rgi with timer := some (lossTimeInForce s) }

/-- The arrival of an accepted frame, complete before any slot or telegram is handed on (R179). -/
def arrive (s : State) (f : List Byte) : State :=
  startTimerAfresh (takePendingEffect ((bookFrame s f).raiseAll (arrivalEvents s f)))

/-! ## Telegrams of the RGI -/

/-- The status record (R186). -/
def statusRecord (s : State) : List Byte :=
  nat8 s.tbs.device.code ++ nat8 s.rgi.ring.code ++ nat8 s.tbs.shadow.code ++ nat16 s.tbs.written ++
    nat8 s.tbs.active.code ++ nat8 s.rgi.resetCause.code ++ flag8 s.rgi.overflow ++ flag8 s.rgi.truncated ++
    nat8 (queued s.rgi)

/-- STATUS_READ (R186). -/
def takeStatusRead (s : State) : State × Answer :=
  (s.withRgi { s.rgi with overflow := false, truncated := false }, { status := .done, payload := statusRecord s })

/-- RESTART (R187). Where a restart is pending and a later telegram of the frame has left output mode PASSIVE, a second RESTART
is REFUSED_STATE by the mode alone: the model's choice (log 50). -/
def takeRestart (s : State) : State × Answer :=
  if s.otu.mode = .passive then (s.withRgi { s.rgi with restartPending := true }, plain .done)
  else (s, plain .refusedState)

/-- A request as its owner takes it (R183). -/
def takeRequest (r : Request) (s : State) : State × Answer :=
  match r with
  | .tableOpen => takeTableOpen s
  | .tableWrite table index entry => takeTableWrite table index entry s
  | .tableRead bank table index => takeTableRead bank table index s
  | .tableCommit expected => takeTableCommit expected s
  | .tableAbandon => takeTableAbandon s
  | .bankSwap => takeBankSwap s
  | .pointRead first last => takePointRead first last s
  | .pointForce point value => takePointForce point value s
  | .pointRelease point => takePointRelease point s
  | .loopManual loop value => takeLoopManual loop value s
  | .loopAuto loop => takeLoopAuto loop s
  | .lineCommand line kind => takeLineCommand line kind s
  | .dispatchOverride target ramp => takeDispatchOverride target ramp s
  | .dispatchClear => takeDispatchClear s
  | .outputMode mode => takeOutputMode mode s
  | .tripReset group => takeTripReset group s
  | .recordRead line day index => takeRecordRead line day index s
  | .dayRead line day => takeDayRead line day s
  | .ringInfo line => takeRingInfo line s
  | .statusRead => takeStatusRead s
  | .restart => takeRestart s

/-- The space a request needs: its longest reply for the arguments it carries (R184). -/
def spaceNeeded (r : Request) : Nat :=
  match r with
  | .pointRead first last =>
    match pointReadCount first last with
    | some n => 7 + 7 * n
    | none => 6
  | .tableRead _ table _ => 9 + (if table.toNat < 10 then entryLength table.toNat else 36)
  | .tableCommit _ => 8
  | .loopManual loop value => if loop.toNat < 12 ∧ value.toNat ≤ 10000 then 8 else 6
  | .lineCommand line kind => if (lineOf line).isSome ∧ kind = 1 then 8 else 7
  | .dispatchOverride target ramp => if overrideInRange target ramp then 40 else 6
  | .dispatchClear => 40
  | .outputMode mode => if (outputModeOf mode).isSome then 7 else 6
  | .recordRead line _ index => if (lineOf line).isSome ∧ index.toNat ≤ 47 then 59 else 6
  | .dayRead line _ => if (lineOf line).isSome then 51 else 6
  | .ringInfo line => if (lineOf line).isSome then 18 else 6
  | .statusRead => 16
  | .tableOpen => 6
  | .tableWrite _ _ _ => 6
  | .tableAbandon => 6
  | .bankSwap => 6
  | .pointForce _ _ => 6
  | .pointRelease _ => 6
  | .loopAuto _ => 6
  | .tripReset _ => 6
  | .restart => 6

/-! ## A frame in progress -/

/-- What the handling of one accepted frame has come to: the state, the space remaining in the reply section, how many
telegrams for the part have been met, whether R184 has ended the frame's telegrams, and what has been placed. -/
structure FrameCtx where
  state : State
  space : Nat
  addressed : Nat
  stopped : Bool
  placed : List Byte
  replies : List Reply
deriving DecidableEq, Repr

/-- A reply is placed, with the state its telegram left. -/
def FrameCtx.place (c : FrameCtx) (s : State) (r : Reply) : FrameCtx :=
  let bs := replyBytes c.state.rgi.address r
  { c with state := s, space := c.space - bs.length, placed := c.placed ++ bs, replies := c.replies ++ [r] }

/-- A telegram whose reply needs a space: taken where the space is there; else it and the rest of the frame's telegrams are
neither executed nor answered (R184). -/
def FrameCtx.answer (c : FrameCtx) (t : Telegram) (need : Nat) (run : State → State × Answer) : FrameCtx :=
  if need ≤ c.space then
    let r := run c.state
    c.place r.1 { kind := t.kind, tag := t.tag, status := r.2.status, payload := r.2.payload }
  else { c with stopped := true }

/-- A reply that changes no state (R183). -/
def refuseWith (st : Status) (s : State) : State × Answer := (s, plain st)

/-- One telegram addressed to the part (R183), the n-th of the frame. -/
def FrameCtx.taken (c : FrameCtx) (t : Telegram) (n : Nat) : FrameCtx :=
  if c.stopped then c
  else if 4 < n then c.answer t 6 (refuseWith .busy)
  else match decodeRequest t.kind t.payload with
    | .unknownKind => c.answer t 6 (refuseWith .unknownKind)
    | .badLength => c.answer t 6 (refuseWith .refusedRange)
    | .request r => c.answer t (spaceNeeded r) (takeRequest r)

/-- Whether the part takes telegrams to an address: its own, which must be 1 to 126 (R192). -/
def addressedTo (address : Nat) (a : Byte) : Bool := 1 ≤ address && address ≤ 126 && a.toNat == address

/-- One finding of the walk (R182). -/
def FrameCtx.walk (c : FrameCtx) : WalkItem → FrameCtx
  | .telegram t =>
    if addressedTo c.state.rgi.address t.address then
      ({ c with addressed := c.addressed + 1 } : FrameCtx).taken t (c.addressed + 1)
    else c
  | .truncated => { c with state := c.state.withRgi { c.state.rgi with truncated := true } }

/-- The event that is placed next (R191), with the queue it leaves. -/
def nextEvent (r : Rgi) : Option (Event × Rgi) :=
  match r.high, r.normal with
  | e :: rest, _ => some (e, { r with high := rest })
  | [], e :: rest => some (e, { r with normal := rest })
  | [], [] => none

/-- One event placed, where one is queued and a whole event report fits. -/
def FrameCtx.placeEvent (c : FrameCtx) : FrameCtx :=
  match nextEvent c.state.rgi with
  | none => c
  | some (e, r) =>
    if 16 ≤ c.space then
      { c with state := c.state.withRgi r, space := c.space - 16, placed := c.placed ++ eventBytes r.address e }
    else c

/-! ## The order of a frame's works -/

/-- The ten blocks that do a work of each accepted frame, by themselves. -/
inductive BlockId where
  | piu
  | lpe
  | gsq (l : Line)
  | lsv (l : Line)
  | eau
  | rdu
  | sdu
  | otu
deriving DecidableEq, Repr

def allBlocks : List BlockId := [.piu, .lpe, .gsq .one, .gsq .two, .lsv .one, .lsv .two, .eau, .rdu, .sdu, .otu]

/-- One happening of an accepted frame: a block's work, a finding of the walk, the placing of the events. -/
inductive FrameItem where
  | work (b : BlockId)
  | walk (w : WalkItem)
  | events
deriving DecidableEq, Repr

/-- The happenings of a frame in one of the orders the rules allow: the works in any order, the acts of the RGI in the order
given, the two interleaved anyhow. Each pick chooses, among the blocks still to work and the next act, the one that is next
(log 2). -/
def frameOrder : Nat → List Nat → List BlockId → List FrameItem → List FrameItem
  | 0, _, _, _ => []
  | n + 1, picks, blocks, acts =>
    let choices := blocks.length + (if acts = [] then 0 else 1)
    let i := picks.headD 0 % choices
    if h : i < blocks.length then .work blocks[i] :: frameOrder n picks.tail (blocks.eraseIdx i) acts
    else match acts with
      | a :: rest => a :: frameOrder n picks.tail blocks rest
      | [] => []

/-- The acts of the RGI on a frame, in their order: the walk, then the events (R182, R191). -/
def ringActs (f : List Byte) : List FrameItem := (walkSection (serviceSection f)).map .walk ++ [.events]

/-- All happenings of a frame, ordered by picks. -/
def frameItems (picks : List Nat) (f : List Byte) : List FrameItem :=
  frameOrder (allBlocks.length + (ringActs f).length) picks allBlocks (ringActs f)

/-- The work of a block on a frame. -/
def blockWork (f : List Byte) : BlockId → State → State
  | .piu => piuWork (sampleOf f)
  | .lpe => lpeWork
  | .gsq l => gsqWork l
  | .lsv l => lsvWork l
  | .eau => eauWork
  | .rdu => rduWork
  | .sdu => sduWork
  | .otu => otuWork

/-- One happening. -/
def FrameCtx.step (f : List Byte) (c : FrameCtx) : FrameItem → FrameCtx
  | .work b => { c with state := blockWork f b c.state }
  | .walk w => c.walk w
  | .events => c.placeEvent.placeEvent

/-- A frame after its arrival, before its first happening. -/
def frameStart (s : State) (f : List Byte) : FrameCtx :=
  { state := arrive s f, space := replySpace f, addressed := 0, stopped := false, placed := [], replies := [] }

/-- A frame after all its happenings. -/
def frameEnd (picks : List Nat) (s : State) (f : List Byte) : FrameCtx :=
  (frameItems picks f).foldl (FrameCtx.step f) (frameStart s f)

/-! ## A whole frame -/

/-- An accepted frame handled and forwarded. -/
def acceptFrame (picks : List Nat) (s : State) (f : List Byte) : State :=
  let c := frameEnd picks s f
  ((c.state.withReplies c.replies).withDownstream (forwardFrame f c.state.otu.window c.placed)).drawFree

/-- A failed frame (R177): the failed-frame image, and the frame forwarded marked. -/
def failFrame (s : State) (f : List Byte) : State := ((failedImage s).withReplies []).withDownstream (markInvalid f)

/-- A duplicate frame: forwarded unchanged, no block sees it. -/
def passFrame (s : State) (f : List Byte) : State := (s.withReplies []).withDownstream f

/-- A frame at the upstream port, its happenings ordered by picks. -/
def handleFrame (picks : List Nat) (f : List Byte) (s : State) : State :=
  match classify s f with
  | .failed => failFrame s f
  | .duplicate => passFrame s f
  | .first => acceptFrame picks s f
  | .regular => acceptFrame picks s f
  | .resync => acceptFrame picks s f

/-! ## The commands -/

/-- POWER_ON (R192). -/
def execPowerOn (pins : BitVec 7) (s : State) : Host.Outcome State Fault Refusal := .next (powerOnState pins s)

/-- CYCLE_FRAME_ARRIVAL (R177). -/
def execCycleFrameArrival (frame : List Byte) (s : State) : Host.Outcome State Fault Refusal :=
  .next (handleFrame (Config.workOrder s.free) frame s)

/-- The ring at the expiry of the ring-loss timer, which ran against a time (R180). -/
def loseRing (time : Nat) (s : State) : State :=
  (s.withRgi { s.rgi with ring := .lost, timer := none }).raiseAll [eventNow s .ringLost true 0 time]

/-- RING_LOSS_TIMER_EXPIRY (R180). -/
def execRingLossTimerExpiry (s : State) : Host.Outcome State Fault Refusal :=
  .next
    (match s.rgi.timer with
    | some t =>
      if s.rgi.ring = .synced then gsqRingLoss .two (gsqRingLoss .one (lpeRingLoss (loseRing t s))) else s
    | none => s)

/-- RESTART_TAKES_EFFECT (R187). -/
def execRestartTakesEffect (s : State) : Host.Outcome State Fault Refusal :=
  .next (if s.rgi.restartPending then restartPart s else s)

/-- BANK_SWAP_TAKES_EFFECT (R31). As a command by itself it leaves the ring-loss timer as it runs: R35 starts it against the
new bank's time at the swapping frame, and here there is no frame, which is the model's choice (log 51). -/
def execBankSwapTakesEffect (s : State) : Host.Outcome State Fault Refusal :=
  .next (if s.tbs.shadow = .swapPending ∧ ¬ s.rgi.restartPending then (swapBanks s).drawFree else s)

def execStatusRead (tag : Byte) (s : State) : Host.Outcome State Fault Refusal :=
  .next (answerAlone 20 tag (takeStatusRead s))
def execRestart (tag : Byte) (s : State) : Host.Outcome State Fault Refusal :=
  .next (answerAlone 21 tag (takeRestart s))

end Machine
end Sys2Proof
end

