-- ==== Sys2Proof/Machine/Dispatch.lean ====
section
/-! DEFINITION. The meaning of every command: one arm for each constructor. -/

namespace Sys2Proof
namespace Machine

def exec (i : Instr) (s : State) : Host.Outcome State Fault Refusal :=
  match i with
  | .powerOn pins => Sys2Proof.Machine.execPowerOn pins s
  | .cycleFrameArrival frame => Sys2Proof.Machine.execCycleFrameArrival frame s
  | .ringLossTimerExpiry => Sys2Proof.Machine.execRingLossTimerExpiry s
  | .restartTakesEffect => Sys2Proof.Machine.execRestartTakesEffect s
  | .bankSwapTakesEffect => Sys2Proof.Machine.execBankSwapTakesEffect s
  | .pointStale point sample => Sys2Proof.Machine.execPointStale point sample s
  | .binaryQualifiedChange point sample => Sys2Proof.Machine.execBinaryQualifiedChange point sample s
  | .strokeCycleStart line => Sys2Proof.Machine.execStrokeCycleStart line s
  | .stepTimerStart line => Sys2Proof.Machine.execStepTimerStart line s
  | .stepComplete line => Sys2Proof.Machine.execStepComplete line s
  | .stepTimeout line => Sys2Proof.Machine.execStepTimeout line s
  | .tempQualified line => Sys2Proof.Machine.execTempQualified line s
  | .burnoutEnd line => Sys2Proof.Machine.execBurnoutEnd line s
  | .minuteClose time => Sys2Proof.Machine.execMinuteClose time s
  | .halfhourClose time => Sys2Proof.Machine.execHalfhourClose time s
  | .dayClose time => Sys2Proof.Machine.execDayClose time s
  | .dosingLimit line reagent => Sys2Proof.Machine.execDosingLimit line reagent s
  | .tripReleasedDelayed group => Sys2Proof.Machine.execTripReleasedDelayed group s
  | .pairIntervalElapsed record => Sys2Proof.Machine.execPairIntervalElapsed record s
  | .tableOpen tag => Sys2Proof.Machine.execTableOpen tag s
  | .tableWrite tag table index entry => Sys2Proof.Machine.execTableWrite tag table index entry s
  | .tableRead tag bank table index => Sys2Proof.Machine.execTableRead tag bank table index s
  | .tableCommit tag expected => Sys2Proof.Machine.execTableCommit tag expected s
  | .tableAbandon tag => Sys2Proof.Machine.execTableAbandon tag s
  | .bankSwap tag => Sys2Proof.Machine.execBankSwap tag s
  | .pointRead tag first last => Sys2Proof.Machine.execPointRead tag first last s
  | .pointForce tag point value => Sys2Proof.Machine.execPointForce tag point value s
  | .pointRelease tag point => Sys2Proof.Machine.execPointRelease tag point s
  | .loopManual tag loop value => Sys2Proof.Machine.execLoopManual tag loop value s
  | .loopAuto tag loop => Sys2Proof.Machine.execLoopAuto tag loop s
  | .lineCommandStart tag line => Sys2Proof.Machine.execLineCommandStart tag line s
  | .lineCommandFeedOn tag line => Sys2Proof.Machine.execLineCommandFeedOn tag line s
  | .lineCommandFeedOff tag line => Sys2Proof.Machine.execLineCommandFeedOff tag line s
  | .lineCommandStop tag line => Sys2Proof.Machine.execLineCommandStop tag line s
  | .lineCommandReset tag line => Sys2Proof.Machine.execLineCommandReset tag line s
  | .resetFeeder tag line => Sys2Proof.Machine.execResetFeeder tag line s
  | .dispatchOverride tag target ramp => Sys2Proof.Machine.execDispatchOverride tag target ramp s
  | .dispatchClear tag => Sys2Proof.Machine.execDispatchClear tag s
  | .outputMode tag mode => Sys2Proof.Machine.execOutputMode tag mode s
  | .tripReset tag group => Sys2Proof.Machine.execTripReset tag group s
  | .recordRead tag line day index => Sys2Proof.Machine.execRecordRead tag line day index s
  | .dayRead tag line day => Sys2Proof.Machine.execDayRead tag line day s
  | .ringInfo tag line => Sys2Proof.Machine.execRingInfo tag line s
  | .statusRead tag => Sys2Proof.Machine.execStatusRead tag s
  | .restart tag => Sys2Proof.Machine.execRestart tag s

end Machine
end Sys2Proof
end

