-- ==== Sys2Proof/Safety.lean ====
section
/-! DEFINITION. What a sound state of the part is, in the terms statements use: the event queue, the table banks, pairs, the
emission records, the ranges of the records, and the states of sequencers and lines. -/

namespace Sys2Proof
namespace Machine

/-! ## Words of the statements -/

/-- A state in which a telegram by itself has been answered: one reply with its kind, tag, status and payload (R185). -/
def State.answered (s : State) (kind tag : Byte) (st : Status) (payload : List Byte) : State :=
  s.withReplies [{ kind := kind, tag := tag, status := st, payload := payload }]

/-- How many bytes of an entry its layout names (R198); the bytes behind them are ignored and read back as 0 (R193). -/
def namedBytes (table index : Nat) : Nat :=
  match table, index with
  | 0, 0 => 4 | 0, 1 => 36 | 0, 2 => 36 | 0, 3 => 19 | 0, 4 => 1 | 0, 5 => 11 | 0, 6 => 11 | 0, 7 => 28
  | t, _ => entryLength t

/-- An entry as it reads back: the bytes its layout names, and 0 for the others. -/
def readsBack (table index : Nat) (entry : List Byte) : List Byte :=
  padTo (entryLength table) (entry.take (namedBytes table index))

/-! ## Events -/

/-- The event queue holds at most 64 events, each in the order of its own priority (R189, R190). -/
def QueueSound (r : Rgi) : Prop :=
  queued r ≤ 64 ∧ (∀ e ∈ r.high, e.high = true) ∧ (∀ e ∈ r.normal, e.high = false)

/-! ## Banks -/

/-- The written count is the number of marked entries (R22). -/
def MarksCounted (t : Tbs) : Prop := t.written = t.marks.toList.count true

/-- The bank RUN works on has passed validation, and so has a bank that is committed or about to be swapped in (R25, R30,
R31). -/
def BanksChecked (t : Tbs) : Prop :=
  (t.bankValid = true → firstOffender t.activeBank = none) ∧
    (t.shadow = .committed ∨ t.shadow = .swapPending → firstOffender t.shadowBank = none)

/-- The device is in RUN exactly when the bank-valid flag is set; an output mode other than NORMAL and a pending restart need
RUN; in CONFIG nothing has been written (R34, R163, R187). -/
def DeviceSound (s : State) : Prop :=
  s.running = s.tbs.bankValid ∧ (s.otu.mode ≠ .normal → s.running = true) ∧
    (s.rgi.restartPending = true → s.running = true) ∧
    (s.running = false → ∀ k : Fin 64, (s.otu.records.get k).last = none)

/-! ## Pairs -/

/-- No in-use pair of the active bank has both its members written active (R167). -/
def PairsApart (s : State) : Prop :=
  ∀ p : Fin 16, yes (s.tables.pairs.get p).inUse = true →
    ¬ (wasActive s (memberA s p) = true ∧ wasActive s (memberB s p) = true)

/-! ## Emission records -/

/-- The period of a half-hour record as one number, later periods greater. -/
def periodOf (r : HalfRecord) : Nat := r.day * 48 + r.index

/-- A line's rings hold at most 96 and 7 records, strictly ascending, all before the open half-hour and day (R114, R117,
R125). -/
def RingsSound (x : EauLine) : Prop :=
  x.halves.length ≤ 96 ∧ x.days.length ≤ 7 ∧
    (x.halves.map periodOf).Pairwise (· < ·) ∧ (x.days.map fun r => r.day).Pairwise (· < ·) ∧
    (∀ r ∈ x.halves, ∃ m, x.openMinute = some m ∧ periodOf r < m / 30) ∧
    (∀ r ∈ x.days, ∃ m, x.openMinute = some m ∧ r.day < m / 1440)

/-- A component of a half-hour record: validated ≤ average ≤ 65,535, and exceed exactly when VALID and above the limit
(R116). -/
def HalfCompSound (c : HalfComp) : Prop :=
  c.validated ≤ c.average ∧ c.average ≤ 65535 ∧
    (c.exceed = true ↔ c.status = .valid ∧ c.limit < c.validated)

/-- What a line's records are made from and what they hold: no published value, no minute average and no sum of samples goes
beyond 65,535 for each sample, every half-hour record is sound, and a day record carries exceed exactly when VALID with a mean above
its limit (R108, R111, R116, R125). -/
def RecordsSound (x : EauLine) : Prop :=
  (∀ k : Fin 6, (x.inst.get k).value ≤ 65535 ∧ (x.inst.get k).lastValid ≤ 65535) ∧
    (∀ k : Fin 6, (x.acc.get k).sum ≤ 65535 * (x.acc.get k).valid) ∧
    (∀ j : Fin 30, ∀ m, x.slots.get j = some m → ∀ k : Fin 6, (m.comps.get k).average ≤ 65535) ∧
    (∀ r ∈ x.halves, ∀ k : Fin 6, HalfCompSound (r.comps.get k)) ∧
    ∀ r ∈ x.days, ∀ k : Fin 6,
      ((r.comps.get k).exceed = true ↔ (r.comps.get k).status = .valid ∧ (r.comps.get k).limit < (r.comps.get k).mean)

/-! ## Ranges (sections 3.3, 8.2 and 9.3) -/

/-- u and the published output of a loop lie in 0 to 10,000 (section 3.3). -/
def LoopInRange (r : LoopRecord) : Prop := 0 ≤ r.u ∧ r.u ≤ 10000 ∧ 0 ≤ r.published ∧ r.published ≤ 10000

/-- A loop in service keeps u within its limits and the remainder r within 0 to D - 1, D being 1000 Ti of its entry (sections 3.3
and 3.4). Limits that cross, which validation turns down, bound nothing. -/
def LoopFitsEntry (b : Bank) (i : Fin 12) (r : LoopRecord) : Prop :=
  let e := b.loops.get i
  yes e.inService = true →
    0 ≤ r.r ∧ r.r < 1000 * tiOf b e ∧ (outMinOf e ≤ outMaxOf e → outMinOf e ≤ r.u ∧ r.u ≤ outMaxOf e)

/-- The dispatch record lies in the ranges of section 8.2, and the trip hold keeps the set point at 0 (R149, R154). -/
def DispatchInRange (d : Sdu) : Prop :=
  (∀ b, d.block = some b → b < 48) ∧
    (∀ t r, d.override = some (t, r) → t ≤ 100000 ∧ 1 ≤ r ∧ r ≤ 10000) ∧
    d.setPoint ≤ 100000 ∧ d.acc ≤ 59999 ∧ d.capability ≤ 100000 ∧ d.total ≤ 65535 ∧
    d.demand.one + d.demand.two + d.unmet = d.total ∧ (d.tripHold = true → d.setPoint = 0 ∧ d.pubSource = 0)

/-- A rate accumulator holds 0 to 999 (R164). -/
def RateInRange (r : OutRecord) : Prop := r.acc ≤ 999

/-! ## Sequencers and lines -/

/-- A sequencer has demands on in STEPPING alone, has no feed estimate and no captures in STOPPED, HELD and FAULT, and keeps a
step in STEPPING and HELD alone (R63, R72, R74, R77, R78). -/
def SequencerSound (g : Gsq) : Prop :=
  (g.state ≠ .stepping → g.demands = 0) ∧
    (g.state = .stopped ∨ g.state = .held ∨ g.state = .fault → g.feed = 0 ∧ g.current = none ∧ g.previous = none) ∧
    (g.state = .stopped ∨ g.state = .pause ∨ g.state = .fault → g.step = none ∧ g.timerStart = none) ∧
    (g.pub.state ≠ .stepping → g.pub.demands = 0)

/-- A line keeps a burnout start in BURNOUT alone, holds at most 8 heating value samples, and publishes feed permission and
strokes in WASTE alone, at most 120 an hour (R93, R96, R97, R100). -/
def LineSound (v : Lsv) : Prop :=
  ((v.burnoutStart.isSome = true) ↔ v.state = .burnout) ∧ v.samples.length ≤ 8 ∧
    (v.pub.permission = true → v.pub.state = .waste) ∧ (v.pub.state ≠ .waste → v.pub.strokes = 0) ∧
    v.pub.strokes ≤ 120 ∧ v.pub.burner = v.pub.state.burner ∧ v.pub.operating = v.pub.state.operating

/-! ## Safe runs -/

/-- Everything above, of a whole state. -/
def Sound (s : State) : Prop :=
  QueueSound s.rgi ∧ MarksCounted s.tbs ∧ BanksChecked s.tbs ∧ DeviceSound s ∧ PairsApart s ∧
    (∀ l : Line, RingsSound (s.eau.lines.get l) ∧ RecordsSound (s.eau.lines.get l)) ∧
    (∀ i : Fin 12, LoopInRange (s.lpe.loops.get i) ∧ LoopFitsEntry s.tables i (s.lpe.loops.get i)) ∧ DispatchInRange s.sdu ∧
    (∀ k : Fin 64, RateInRange (s.otu.records.get k)) ∧
    (∀ l : Line, SequencerSound (s.gsq.get l) ∧ LineSound (s.lsv.get l))

end Machine
end Sys2Proof
end

