-- ==== Sys2Proof/WellFormed.lean ====
section
/-! DEFINITION. Which commands a partner of the part can send at all: the checks that the types of the operands
do not already make. The meanings are total; an ill-formed command is still given one. -/

namespace Sys2Proof

/-- A frame whose header and frame check can stand in it (R194: 21 bytes of header, 4 of check), and no longer than
its 16-bit offsets and lengths can reach. -/
def wellFormedFrame (frame : List Byte) : Bool :=
  25 ≤ frame.length && frame.length ≤ 131074

/-- Plant time within the ranges of the frame header (a ms of day above is taken as the greatest, R177). -/
def wellFormedTime (t : PlantTime) : Bool :=
  t.day ≤ 65535 && t.ms ≤ 86399999

/-- A TABLE_WRITE payload is at most 40 bytes (R183), two of them table and index. -/
def wellFormedEntry (entry : List Byte) : Bool :=
  entry.length ≤ 38

/-- Well-formed commands. -/
def wellFormed : Instr → Bool
  | .cycleFrameArrival frame => wellFormedFrame frame
  | .minuteClose t => wellFormedTime t
  | .halfhourClose t => wellFormedTime t
  | .dayClose t => wellFormedTime t
  | .tableWrite _ _ _ entry => wellFormedEntry entry
  | .powerOn _ => true
  | .ringLossTimerExpiry => true
  | .restartTakesEffect => true
  | .bankSwapTakesEffect => true
  | .pointStale _ _ => true
  | .binaryQualifiedChange _ _ => true
  | .strokeCycleStart _ => true
  | .stepTimerStart _ => true
  | .stepComplete _ => true
  | .stepTimeout _ => true
  | .tempQualified _ => true
  | .burnoutEnd _ => true
  | .dosingLimit _ _ => true
  | .tripReleasedDelayed _ => true
  | .pairIntervalElapsed _ => true
  | .tableOpen _ => true
  | .tableRead _ _ _ _ => true
  | .tableCommit _ _ => true
  | .tableAbandon _ => true
  | .bankSwap _ => true
  | .pointRead _ _ _ => true
  | .pointForce _ _ _ => true
  | .pointRelease _ _ => true
  | .loopManual _ _ _ => true
  | .loopAuto _ _ => true
  | .lineCommandStart _ _ => true
  | .lineCommandFeedOn _ _ => true
  | .lineCommandFeedOff _ _ => true
  | .lineCommandStop _ _ => true
  | .lineCommandReset _ _ => true
  | .resetFeeder _ _ => true
  | .dispatchOverride _ _ _ => true
  | .dispatchClear _ => true
  | .outputMode _ _ => true
  | .tripReset _ _ => true
  | .recordRead _ _ _ _ => true
  | .dayRead _ _ _ => true
  | .ringInfo _ _ => true
  | .statusRead _ => true
  | .restart _ => true

/-- A telegram payload that the ring can carry to its owner (R183). -/
def wellFormedRequest : Request → Bool
  | .tableWrite _ _ entry => wellFormedEntry entry
  | _ => true

end Sys2Proof
end

