-- ==== Sys2Proof/Certificates/Slice0/Obligations.lean ====
section
/-! DEFINITION. The statements about the part, for the provers. -/

open Sys2Proof Sys2Proof.Machine

/-! ## The queue of commands, reset, power-on -/

/-- A step carries out the command at the front of the queue on the state with the queue's rest. On an empty queue the part
idles, which is the model's own choice (log 18). -/
def Obligations.StepTakesTheFrontCommand : Prop :=
  (∀ (c : Instr) (rest : List Instr) (s : State), s.pending = c :: rest → step s = exec c (s.withPending rest)) ∧
    ∀ s : State, s.pending = [] → step s = .next s

/-- Every command, in every state, answers a next state, and leaves the queue of waiting commands as it is. That the happenings
inside a frame are commands at all, and that POWER_ON keeps the queue, is the model's choice (log 1). -/
def Obligations.EveryCommandCompletesAndKeepsTheQueue : Prop :=
  ∀ (c : Instr) (s : State), ∃ t, exec c s = .next t ∧ t.pending = s.pending

/-! ## Frames and the ring -/

/-- POWER_ON puts every block at its values after reset, with the ring address its pins read, and the state after reset holds the values
the chapters give for power-on (R19, R37, R54, R83, R103, R128, R140, R158, R176, R192). That commands still waiting stay in the
queue is the model's choice (log 1), and so is what the state after reset holds beside those values (log 25). -/
def Obligations.PowerOnPutsEveryBlockAtReset : Prop :=
  (∀ (pins : BitVec 7) (s : State),
     exec (.powerOn pins) s =
       .next { State.reset with
         rgi := { State.reset.rgi with address := pins.toNat }, pending := s.pending, free := s.free }) ∧
  (let s := State.reset
   (s.rgi.ring = .starting ∧ s.rgi.lastCycle = none ∧ s.rgi.runTime = 0 ∧ s.rgi.timer = none ∧
     s.rgi.restartPending = false ∧ s.rgi.high = [] ∧ s.rgi.normal = [] ∧ s.rgi.overflow = false ∧
     s.rgi.truncated = false ∧ s.rgi.resetCause = .powerOn) ∧
   (s.tbs.active = .a ∧ s.tbs.bankValid = false ∧ s.tbs.device = .config ∧ s.tbs.shadow = .closed ∧ s.tbs.written = 0 ∧
     (∀ i : Fin 488, s.tbs.marks.get i = false) ∧
     (∀ n : BankId, ∀ p ∈ visitingOrder, ∀ x ∈ (s.tbs.bank n).entryBytes p.1 p.2, x = 0)) ∧
   (∀ i : Fin 256, s.piu.image.get i = { value := 0, quality := .bad, age := 0, edge := none, newEdge := false } ∧
     (s.piu.work.get i).force = none ∧ (s.piu.work.get i).history = [] ∧ (s.piu.work.get i).qualified = none ∧
     (s.piu.work.get i).toggle = none ∧ (s.piu.work.get i).edge = none) ∧
   (∀ i : Fin 12, (s.lpe.loops.get i).operator = .auto ∧ (s.lpe.loops.get i).mode = .auto ∧ (s.lpe.loops.get i).u = 0 ∧
     (s.lpe.loops.get i).r = 0 ∧ (s.lpe.loops.get i).ePrev = none ∧ (s.lpe.loops.get i).published = 0) ∧
   (∀ l : Line, (s.gsq.get l).state = .stopped ∧ (s.gsq.get l).demands = 0 ∧ (s.gsq.get l).step = none ∧
     (s.gsq.get l).timerStart = none ∧ (s.gsq.get l).pauseBase = none ∧ (s.gsq.get l).current = none ∧
     (s.gsq.get l).previous = none ∧ (s.gsq.get l).cycleCount = 0 ∧ (s.gsq.get l).feed = 0 ∧
     (s.gsq.get l).pub = { state := .stopped, demands := 0, cycleCount := 0, feed := 0 }) ∧
   (∀ l : Line, (s.lsv.get l).state = .off ∧ (s.lsv.get l).cause = .reset ∧ (s.lsv.get l).bandSince = none ∧
     (s.lsv.get l).burnoutStart = none ∧ (s.lsv.get l).samples = [] ∧ (s.lsv.get l).lastCount = 0 ∧
     (s.lsv.get l).pub.state = .off ∧ (s.lsv.get l).pub.cause = .reset ∧ (s.lsv.get l).pub.permission = false ∧
     (s.lsv.get l).pub.strokes = 0 ∧ (s.lsv.get l).pub.heating = 0 ∧ (s.lsv.get l).pub.burner = false ∧
     (s.lsv.get l).pub.operating = false ∧ (s.lsv.get l).pub.available = 0) ∧
   (s.eau.lastPlant = none ∧ ∀ l : Line, (s.eau.lines.get l).openMinute = none ∧ (s.eau.lines.get l).halves = [] ∧
     (s.eau.lines.get l).days = [] ∧ (s.eau.lines.get l).run = 0 ∧ (s.eau.lines.get l).stop = false ∧
     (s.eau.lines.get l).reduction = false ∧ (s.eau.lines.get l).latch = none ∧ (s.eau.lines.get l).dayLatch = none ∧
     (∀ j : Fin 30, (s.eau.lines.get l).slots.get j = none) ∧
     ∀ k : Fin 6, (s.eau.lines.get l).inst.get k = { value := 0, flag := .inputInvalid, lastValid := 0 } ∧
       (s.eau.lines.get l).acc.get k = { sum := 0, valid := 0, operating := 0, nonOperating := 0 } ∧
       (s.eau.lines.get l).dayAcc.get k = { sum := 0, valid := 0, counted := 0 }) ∧
   (∀ l : Line, (s.rdu.lines.get l).ureaSet = 0 ∧ (s.rdu.lines.get l).limeSet = 0 ∧ (s.rdu.lines.get l).ureaTerm = 0 ∧
     (s.rdu.lines.get l).limeTerm = 0 ∧ (s.rdu.lines.get l).carbon = 0 ∧
     ∀ r : Reagent, (s.rdu.lines.get l).limit r = { since := none, reported := false }) ∧
   (s.sdu.block = none ∧ s.sdu.override = none ∧ s.sdu.setPoint = 0 ∧ s.sdu.acc = 0 ∧ s.sdu.dir = .none ∧
     s.sdu.limiting = false ∧ s.sdu.tripHold = false ∧ s.sdu.capability = 0 ∧ s.sdu.total = 0 ∧ s.sdu.demand.one = 0 ∧
     s.sdu.demand.two = 0 ∧ s.sdu.unmet = 0 ∧ s.sdu.pubSource = 0 ∧ s.sdu.pubBypassSet = 0 ∧
     s.sdu.pubExtractionSet = 0 ∧ s.sdu.pubExtractionTerm = 0) ∧
   (s.otu.mode = .normal ∧ (∀ g : Fin 8, (s.otu.groups.get g).tripped = false ∧
     (s.otu.groups.get g).absentSince = none ∧ s.otu.pubGroups.get g = false) ∧
     (∀ k : Fin 64, (s.otu.records.get k).last = none ∧ (s.otu.records.get k).acc = 0 ∧
       (s.otu.pub.get k).written = 0 ∧ (s.otu.pub.get k).override = false ∧ (s.otu.pub.get k).pending = false) ∧
     (∀ i : Fin 32, (s.otu.trips.get i).lastEdge = none ∧ (s.otu.trips.get i).latches = 0) ∧
     ∀ p : Fin 16, s.otu.conflict.get p = false))

/-- An accepted frame, in every state and with the works of the blocks in any order, sets the last accepted cycle number,
advances run time by T_cyc for each cycle of a difference up to 1,000 and by one T_cyc otherwise, counted 0 while no bank is
valid, makes the ring SYNCED and starts the ring-loss timer with the time of the bank active after its arrival. Its arrival raises
TIME_JUMP (3, 0) where the difference is above 1,000, RING_RESTORED with the difference where the ring was LOST, and then lets what
is pending take effect: a pending restart, else a pending swap, as RESTART_TAKES_EFFECT and BANK_SWAP_TAKES_EFFECT have it. Every
happening of the frame follows on the state that this leaves, in an order that stays open (log 2): each block's work, the PIU's on
the frame's own samples, and each finding of the walk. Then the frame leaves with the window and what was placed.
That TIME_JUMP stands before RING_RESTORED is the model's reading (log 10). -/
def Obligations.AcceptedFrameKeepsTheBooks : Prop :=
  (∀ (f : List Byte) (s : State), frameGood f = true →
    (∀ c, s.rgi.lastCycle = some c → (frameCycle f + 65536 - c) % 65536 ≠ 0) →
    let n := match s.rgi.lastCycle with
      | none => 1
      | some c => if (frameCycle f + 65536 - c) % 65536 ≤ 1000 then (frameCycle f + 65536 - c) % 65536 else 1
    let a := n * (if s.tbs.bankValid then s.tables.tCyc else 0)
    let d := match s.rgi.lastCycle with
      | none => 0
      | some c => (frameCycle f + 65536 - c) % 65536
    let event (kind : EventKind) (high : Bool) (detail : Nat) : Event :=
      { kind := kind, high := high, cycle := frameCycle f, plant := framePlant f, subject := 0, detail := detail }
    let raised : State := { s with
      rgi := ((if 1000 < d then [event .timeJump false (3 * 256)] else []) ++
          (if s.rgi.ring = .lost then [event .ringRestored true d] else [])).foldl enqueue
        { s.rgi with
          ring := .synced, lastCycle := some (frameCycle f), plant := framePlant f, runTime := s.rgi.runTime + a,
          advance := a } }
    let b := takePendingEffect raised
    frameStart s f =
        { state := { b with rgi := { b.rgi with timer := some (if b.tbs.bankValid then b.tables.lossTime else 2000) } },
          space := replySpace f, addressed := 0, stopped := false, placed := [], replies := [] } ∧
    (∃ picks,
      let c := (frameItems picks f).foldl (FrameCtx.step f) (frameStart s f)
      exec (.cycleFrameArrival f) s =
        .next { c.state with
          replies := c.replies, downstream := some (forwardFrame f c.state.otu.window c.placed),
          free := c.state.free + 1 }) ∧
    ∃ t, exec (.cycleFrameArrival f) s = .next t ∧ t.rgi.lastCycle = some (frameCycle f) ∧ t.rgi.plant = framePlant f ∧
      t.rgi.runTime = s.rgi.runTime + a ∧ t.rgi.advance = a ∧ t.rgi.ring = .synced ∧
      t.rgi.timer = some (if t.tbs.bankValid then t.tables.lossTime else 2000) ∧ t.rgi.address = s.rgi.address) ∧
  (∀ u : State,
    (u.rgi.restartPending = true → exec .restartTakesEffect u = .next (takePendingEffect u)) ∧
    (u.rgi.restartPending = false → u.tbs.shadow = .swapPending →
      exec .bankSwapTakesEffect u = .next { takePendingEffect u with free := u.free + 1 }) ∧
    (u.rgi.restartPending = false → u.tbs.shadow ≠ .swapPending → takePendingEffect u = u)) ∧
  ∀ (f : List Byte) (c : FrameCtx),
    let worked (t : State) : FrameCtx := { c with state := t }
    (c.step f (.work .piu) = worked (piuWork (sampleOf f) c.state) ∧ c.step f (.work .lpe) = worked (lpeWork c.state) ∧
      (∀ l, c.step f (.work (.gsq l)) = worked (gsqWork l c.state)) ∧
      (∀ l, c.step f (.work (.lsv l)) = worked (lsvWork l c.state)) ∧
      c.step f (.work .eau) = worked (eauWork c.state) ∧ c.step f (.work .rdu) = worked (rduWork c.state) ∧
      c.step f (.work .sdu) = worked (sduWork c.state) ∧ c.step f (.work .otu) = worked (otuWork c.state)) ∧
    (∀ w, c.step f (.walk w) = c.walk w) ∧
    ∀ k : Nat,
      (k < slotCount f →
        sampleOf f k =
          some { raw := halfAt f (21 + 4 * k), toggle := (byteAt f (23 + 4 * k)).getLsbD 0,
                 fault := (byteAt f (23 + 4 * k)).getLsbD 1 }) ∧
      (slotCount f ≤ k → sampleOf f k = none)

/-- A frame that fails leaves everything but the published image: in RUN every in-use point is published BAD with value and
age kept and no working part changes, and the frame leaves with its invalid mark set. A duplicate changes nothing and leaves
as it came. That a failed frame keeps its frame check bytes and the other bits of its flags byte is the model's choice (log 16). -/
def Obligations.FramesNotAcceptedAreForwarded : Prop :=
  (∀ (f : List Byte) (s : State), frameGood f = false →
    ∃ t, exec (.cycleFrameArrival f) s = .next t ∧
      t = { s with piu := t.piu, replies := [], downstream := some (f.set 2 (byteAt f 2 ||| 1)) } ∧
      t.piu.work = s.piu.work ∧ (s.running = false → t.piu.image = s.piu.image) ∧
      (s.running = true → ∀ i : Fin 256,
        (yes (s.tables.points.get i).inUse = true →
          t.piu.image.get i = { s.piu.image.get i with quality := .bad, newEdge := false }) ∧
        (yes (s.tables.points.get i).inUse = false →
          t.piu.image.get i = { value := 0, quality := .bad, age := 0, edge := none, newEdge := false }))) ∧
  ∀ (f : List Byte) (s : State), frameGood f = true → s.rgi.lastCycle = some (frameCycle f) →
    exec (.cycleFrameArrival f) s = .next { s with replies := [], downstream := some f }

/-- Whatever the order of an accepted frame, every block works once, and the telegrams and then the events are handled in the
order they stand. -/
def Obligations.FrameOrderIsOneOfThoseAllowed : Prop :=
  ∀ (picks : List Nat) (f : List Byte),
    (frameItems picks f).Perm
        ([.work .piu, .work .lpe, .work (.gsq .one), .work (.gsq .two), .work (.lsv .one), .work (.lsv .two), .work .eau,
          .work .rdu, .work .sdu, .work .otu] ++ ((walkSection (serviceSection f)).map .walk ++ [.events])) ∧
      (frameItems picks f).filter (fun i => match i with | .work _ => false | .walk _ => true | .events => true) =
        (walkSection (serviceSection f)).map .walk ++ [.events]

/-- A good frame whose reply section does not lie in its header leaves as a good frame of the same length, header and service
section, whatever window is written into it and whatever is placed in the space it has: the placed bytes stand behind the bytes
used before, the used length counts them, the slots 512 to 575 below the slot count carry the window, and every other byte before
the frame check is as it came.
How the space is counted is the model's reading (log 17); that the bits and bytes no layout names leave as they came is its choice
(log 61). -/
def Obligations.ForwardedFrameIsGood : Prop :=
  ∀ (f : List Byte) (w : Vector WindowSlot 64) (placed : List Byte), frameGood f = true →
    (replyLength f = 0 ∨ 21 ≤ replyOffset f) → placed.length ≤ replySpace f →
    let g := forwardFrame f w placed
    let free := replyOffset f + 2 + usedLength f
    frameGood g = true ∧ g.length = f.length ∧ g.take 21 = f.take 21 ∧ serviceSection g = serviceSection f ∧
      (placed ≠ [] → usedLength g = usedLength f + placed.length) ∧
      (placed ≠ [] → (g.drop free).take placed.length = placed) ∧
      (∀ k : Fin 64, 512 + k.val < slotCount f →
        (g.drop (21 + 4 * (512 + k.val))).take 4 =
          nat16 (w.get k).raw ++ [if (w.get k).valid then 0x80 else 0, 0]) ∧
      (∀ n, n < bodyLength f → (n < 21 + 4 * 512 ∨ 21 + 4 * min 576 (slotCount f) ≤ n) →
        (placed = [] ∨ n < replyOffset f ∨ (replyOffset f + 2 ≤ n ∧ n < free) ∨ free + placed.length ≤ n) →
        byteAt g n = byteAt f n)

/-- The expiry of the ring-loss timer in SYNCED makes the ring LOST and raises RING_LOST with the loss time in force; in RUN
every in-service loop goes to HOLD with u and its output kept, and a sequencer in STEPPING or PAUSE goes to HELD, its demands
off, its captures emptied, its step kept. Nothing else changes, in CONFIG no loop and no sequencer. -/
def Obligations.RingLossHoldsLoopsAndSequencers : Prop :=
  ∀ (s : State) (time : Nat), s.rgi.ring = .synced → s.rgi.timer = some time →
    ∃ t, exec .ringLossTimerExpiry s = .next t ∧
      t = { s with
        rgi := enqueue { s.rgi with ring := .lost, timer := none }
          { kind := .ringLost, high := true, cycle := s.rgi.cycleNow, plant := s.rgi.plant, subject := 0,
            detail := time },
        lpe := t.lpe, gsq := t.gsq } ∧
      (s.running = false → t.lpe = s.lpe ∧ t.gsq = s.gsq) ∧
      (s.running = true →
        (∀ i : Fin 12, t.lpe.loops.get i =
          if yes (s.tables.loops.get i).inService then { s.lpe.loops.get i with mode := .hold, r := 0, ePrev := none }
          else s.lpe.loops.get i) ∧
        ∀ l : Line,
          ((s.gsq.get l).state = .stepping ∨ (s.gsq.get l).state = .pause →
            t.gsq.get l = { s.gsq.get l with
              state := .held, demands := 0, current := none, previous := none, feed := 0,
              pub := { state := .held, demands := 0, cycleCount := (s.gsq.get l).cycleCount, feed := 0 } }) ∧
          ((s.gsq.get l).state = .stopped ∨ (s.gsq.get l).state = .held ∨ (s.gsq.get l).state = .fault →
            t.gsq.get l = s.gsq.get l))

/-- An event raised while the queue holds fewer than 64 joins the newest end of its priority. At 64 the overflow flag is set; a
HIGH event takes the place of the newest NORMAL one, and is discarded where none is held; a NORMAL event is discarded.
The cycle number the events and edge records carry is the last accepted one; where no frame has been accepted it stays open (log 60). -/
def Obligations.EventQueueGivesWayByPriority : Prop :=
  (∀ (r : Rgi) (c : Nat), r.lastCycle = some c → r.cycleNow = c) ∧
  ∀ (r : Rgi) (e : Event),
    (queued r < 64 → e.high = true → enqueue r e = { r with high := r.high ++ [e] }) ∧
    (queued r < 64 → e.high = false → enqueue r e = { r with normal := r.normal ++ [e] }) ∧
    (queued r = 64 → e.high = true → r.normal ≠ [] →
      enqueue r e = { r with overflow := true, high := r.high ++ [e], normal := r.normal.dropLast }) ∧
    (queued r = 64 → e.high = true → r.normal = [] → enqueue r e = { r with overflow := true }) ∧
    (queued r = 64 → e.high = false → enqueue r e = { r with overflow := true }) ∧
    (queued r ≤ 64 → queued (enqueue r e) ≤ 64)

/-- STATUS_READ answers DONE with the status record in every state, and clears the overflow and truncated flags after it. RESTART is
answered DONE and makes a restart pending in output mode PASSIVE, and is REFUSED_STATE in NORMAL and HOLD. That it is refused there
also while a restart is pending, which R187 answers DONE, is the model's choice (log 50). -/
def Obligations.StatusReadAndRestartAnswer : Prop :=
  (∀ (tag : Byte) (s : State),
     exec (.statusRead tag) s =
       .next (State.answered { s with rgi := { s.rgi with overflow := false, truncated := false } } 20 tag .done
         (nat8 s.tbs.device.code ++ nat8 s.rgi.ring.code ++ nat8 s.tbs.shadow.code ++ nat16 s.tbs.written ++
           nat8 s.tbs.active.code ++ nat8 s.rgi.resetCause.code ++ flag8 s.rgi.overflow ++ flag8 s.rgi.truncated ++
           nat8 (s.rgi.high.length + s.rgi.normal.length)))) ∧
  (∀ (tag : Byte) (s : State),
     (s.otu.mode = .passive →
       exec (.restart tag) s = .next (State.answered { s with rgi := { s.rgi with restartPending := true } } 21 tag .done [])) ∧
     (s.otu.mode = .normal ∨ s.otu.mode = .hold → exec (.restart tag) s = .next (s.answered 21 tag .refusedState [])))

/-- A pending restart as it takes effect: each block takes the values of its chapter for a restart, the ring interface and the
emission records keep what R129 and R192 keep, both emission latches are those of the active bank, each line supervisor publishes
its reset record with the design heating value, and a pending swap is dropped.
Taken as a command by itself, which is the model's choice (log 1 and 19). The rules of the blocks list neither the LSV's two
published set points, nor the cycle start of a sequencer, nor the target and effective target of the dispatch status, nor a record's
zero-since before the first work: that these are 0 and absent after a restart is the model's choice (log 25), and so is that the
output window stands as last written (log 25). That the instantaneous values show the reset at once is its choice too (log 52), and
that the EAU's publication is kept is its reading (log 42). -/
def Obligations.RestartTakesEffectOnEveryBlock : Prop :=
  ∀ s : State, s.rgi.restartPending = true →
    ∃ t, exec .restartTakesEffect s = .next t ∧
      t.rgi = { s.rgi with restartPending := false, resetCause := .powerOnAndRestart } ∧
      (t.tbs.bankA = s.tbs.bankA ∧ t.tbs.bankB = s.tbs.bankB ∧ t.tbs.active = s.tbs.active ∧
        t.tbs.bankValid = s.tbs.bankValid ∧ t.tbs.device = .run ∧ t.tbs.shadow = .closed ∧ t.tbs.written = 0 ∧
        ∀ i : Fin 488, t.tbs.marks.get i = false) ∧
      (∀ i : Fin 256, t.piu.image.get i = { value := 0, quality := .bad, age := 0, edge := none, newEdge := false } ∧
        (t.piu.work.get i).force = none ∧ (t.piu.work.get i).history = [] ∧ (t.piu.work.get i).qualified = none ∧
        (t.piu.work.get i).toggle = none ∧ (t.piu.work.get i).edge = none) ∧
      (∀ i : Fin 12, (t.lpe.loops.get i).operator = .auto ∧ (t.lpe.loops.get i).r = 0 ∧
        (t.lpe.loops.get i).ePrev = none ∧ (t.lpe.loops.get i).u = outMinOf (s.tables.loops.get i) ∧
        (t.lpe.loops.get i).published = outMinOf (s.tables.loops.get i)) ∧
      (∀ l : Line, t.gsq.get l = State.reset.gsq.get l ∧ (t.lsv.get l).state = .off ∧ (t.lsv.get l).cause = .reset ∧
        (t.lsv.get l).samples = [] ∧ (t.lsv.get l).bandSince = none ∧ (t.lsv.get l).burnoutStart = none ∧
        (t.lsv.get l).lastCount = 0 ∧
        (t.lsv.get l).pub =
          { state := .off, cause := .reset, permission := false, strokes := 0,
            heating := designHeatingOf (s.tables.combustion.get l), burner := false, operating := false, available := 0,
            steamSetPoint := 0, o2SetPoint := 0 }) ∧
      (t.eau.lastPlant = s.eau.lastPlant ∧ ∀ l : Line,
        t.eau.lines.get l = { s.eau.lines.get l with
          latch := (t.eau.lines.get l).latch, dayLatch := (t.eau.lines.get l).dayLatch,
          acc := (t.eau.lines.get l).acc, inst := (t.eau.lines.get l).inst, discard := true } ∧
        (∀ k : Fin 6, (t.eau.lines.get l).acc.get k = { sum := 0, valid := 0, operating := 0, nonOperating := 0 } ∧
          (t.eau.lines.get l).inst.get k = { value := 0, flag := .inputInvalid, lastValid := 0 }) ∧
        (∃ h, (t.eau.lines.get l).latch = some h ∧ h.o2Ref = o2RefOf (s.tables.emission.get l) ∧
          h.o2Ceil = o2CeilOf (s.tables.emission.get l) ∧
          ∀ k : Fin 6, h.comps.get k =
            { limit := (componentEntry s.tables l k).limit.toNat, minValid := minValidOf (componentEntry s.tables l k),
              uncertainty := uncertaintyOf (componentEntry s.tables l k) }) ∧
        ∃ d, (t.eau.lines.get l).dayLatch = some d ∧
          ∀ k : Fin 6, d.get k =
            { limit := (componentEntry s.tables l k).dailyLimit.toNat, dayMin := dayMinOf (componentEntry s.tables l k) }) ∧
      t.rdu = State.reset.rdu ∧ t.sdu = State.reset.sdu ∧ t.otu = { State.reset.otu with window := s.otu.window } ∧
      t.pending = s.pending

/-- A swap that takes effect flips the banks, closes the shadow, clears the marks and the written count, puts the device in
RUN with a valid bank and raises BANK_SWAPPED with the new bank as detail; with a restart pending it does not take effect. It
carries the blocks over to the new bank: points by the rows of R18, loops by those of R53, output records, pairs and trip entries
by R175, the trip hold by the new turbine effects, the emission latches at the first frame in RUN alone.
The event's subject, which the spec does not give, stays open here (log 6).
Taken as a command by itself, which is the model's choice (log 1 and 19); that fields are compared by the values they are taken as
is its choice too (log 48, and log 11 for the invert flag), and so are what is published of a reset record (log 20), the ring-loss
timer that runs on (log 51) and the present edge record that the next work takes (log 53). -/
def Obligations.BankSwapTakesEffectAtOnce : Prop :=
  ∀ s : State, s.tbs.shadow = .swapPending →
    (s.rgi.restartPending = false →
      ∃ t e, exec .bankSwapTakesEffect s = .next t ∧ t.tbs.activeBank = s.tbs.shadowBank ∧
        t.tbs.shadowBank = s.tbs.activeBank ∧ t.tbs.active ≠ s.tbs.active ∧ t.tbs.shadow = .closed ∧ t.tbs.written = 0 ∧
        (∀ i : Fin 488, t.tbs.marks.get i = false) ∧ t.tbs.bankValid = true ∧ t.tbs.device = .run ∧
        t.rgi = enqueue s.rgi e ∧ e.kind = .bankSwapped ∧ e.high = false ∧ e.detail = t.tbs.active.code ∧
        e.cycle = s.rgi.cycleNow ∧ e.plant = s.rgi.plant ∧ t.gsq = s.gsq ∧ t.lsv = s.lsv ∧ t.rdu = s.rdu ∧
        t.pending = s.pending ∧ t.piu.image = s.piu.image ∧
        (∀ i : Fin 256,
          let old := s.tables.points.get i
          let new := t.tables.points.get i
          let w := s.piu.work.get i
          let v := t.piu.work.get i
          let remade := slotOf old ≠ slotOf new ∨ pointKind old ≠ pointKind new ∨
            (pointKind new = .binary ∧ yes old.invert ≠ yes new.invert)
          let rescaled := old.rawLow ≠ new.rawLow ∨ old.rawHigh ≠ new.rawHigh ∨ engLowOf old ≠ engLowOf new ∨
            engHighOf old ≠ engHighOf new ∨ rangeLowOf old ≠ rangeLowOf new ∨ rangeHighOf old ≠ rangeHighOf new ∨
            depthOf old ≠ depthOf new
          (yes old.inUse = false ∨ yes new.inUse = false ∨ remade → v = pointWorkEmpty) ∧
          (yes old.inUse = true → yes new.inUse = true → ¬ remade →
            v = { w with history := v.history, run := v.run } ∧ (rescaled → v.history = []) ∧
              (¬ rescaled → v.history = w.history) ∧ (qualCountOf old ≠ qualCountOf new → v.run = 0) ∧
              (qualCountOf old = qualCountOf new → v.run = w.run))) ∧
        (∀ i : Fin 12,
          let old := s.tables.loops.get i
          let new := t.tables.loops.get i
          let x := s.lpe.loops.get i
          let y := t.lpe.loops.get i
          (yes new.inService = false → y = x) ∧
          (yes new.inService = true → yes old.inService = false →
            y = { x with operator := .auto, u := outMinOf new, r := 0, ePrev := none }) ∧
          (yes new.inService = true → yes old.inService = true →
            y = { x with u := y.u, r := y.r, ePrev := y.ePrev } ∧
            (outMinOf old = outMinOf new → outMaxOf old = outMaxOf new → y.u = x.u) ∧
            (outMinOf old ≠ outMinOf new ∨ outMaxOf old ≠ outMaxOf new → outMinOf new ≤ outMaxOf new →
              y.u = max (outMinOf new) (min (outMaxOf new) x.u)) ∧
            (tiOf s.tables old ≠ tiOf t.tables new ∨ y.u ≠ x.u → y.r = 0) ∧
            (tiOf s.tables old = tiOf t.tables new → y.u = x.u → y.r = x.r) ∧
            (old.pvPoint ≠ new.pvPoint ∨ loopReversed old ≠ loopReversed new → y.ePrev = none) ∧
            (old.pvPoint = new.pvPoint → loopReversed old = loopReversed new → y.ePrev = x.ePrev))) ∧
        (s.running = true → t.eau = s.eau) ∧
        (s.running = false → t.eau.lastPlant = s.eau.lastPlant ∧
          ∀ l : Line, t.eau.lines.get l = { s.eau.lines.get l with
            latch := some (halfLatchOf t.tables l), dayLatch := some (dayLatchOf t.tables l) }) ∧
        t.otu = { s.otu with
          records := t.otu.records, pub := t.otu.pub, conflict := t.otu.conflict, trips := t.otu.trips } ∧
        (∀ k : Fin 64,
          let old := s.tables.outputs.get k
          let new := t.tables.outputs.get k
          let changed := old.window ≠ new.window ∨ old.source ≠ new.source ∨ old.rawLow ≠ new.rawLow ∨
            old.rawHigh ≠ new.rawHigh ∨ outputReversed old ≠ outputReversed new ∨ old.pairId ≠ new.pairId
          (changed → t.otu.records.get k = { last := none, acc := 0, dir := .none, zeroSince := some s.rgi.runTime } ∧
            t.otu.pub.get k = { source := 0, written := 0, back := 0, override := false, pending := false }) ∧
          (¬ changed → t.otu.records.get k = s.otu.records.get k ∧ t.otu.pub.get k = s.otu.pub.get k)) ∧
        (∀ p : Fin 16,
          let old := s.tables.pairs.get p
          let new := t.tables.pairs.get p
          let changed := yes old.inUse ≠ yes new.inUse ∨ old.memberA ≠ new.memberA ∨ old.memberB ≠ new.memberB ∨
            intervalOf old ≠ intervalOf new
          (changed → t.otu.conflict.get p = false) ∧ (¬ changed → t.otu.conflict.get p = s.otu.conflict.get p)) ∧
        (∀ i : Fin 32,
          let w := s.otu.trips.get i
          let v := t.otu.trips.get i
          v.lastEdge = w.lastEdge ∧ v.latches = w.latches &&& (t.tables.trips.get i).targets ∧
            (v.takePresent = true ↔
              w.takePresent = true ∨ (s.tables.trips.get i).point ≠ (t.tables.trips.get i).point)) ∧
        ((∃ g : Fin 8, s.otu.pubGroups.get g = true ∧ yes (t.tables.groups.get g).turbineEffect = true) →
          t.sdu = { s.sdu with tripHold := true, setPoint := 0, acc := 0, dir := .none, pubSource := 0 }) ∧
        ((∀ g : Fin 8, s.otu.pubGroups.get g = true → yes (t.tables.groups.get g).turbineEffect = false) →
          t.sdu = { s.sdu with tripHold := false })) ∧
    (s.rgi.restartPending = true → exec .bankSwapTakesEffect s = .next s)

/-! ## Telegrams -/

/-- Every request decodes from its kind code and payload, and what decodes is the request of that kind and payload. A kind other than
1 to 21 is unknown; one of these is turned down exactly where the payload has not the length of its kind, which is 2 to 40 bytes for
TABLE_WRITE. A service section made of telegrams one behind another is walked back to exactly those telegrams; where a last one follows
whose header or payload runs past the end of the section, the walk finds it truncated and stops there. -/
def Obligations.TelegramsReadBackAsSent : Prop :=
  (∀ r : Request, wellFormedRequest r = true → decodeRequest (requestKind r) (requestPayload r) = .request r) ∧
  (∀ (kind : Byte) (payload : List Byte),
    let lengths : List Nat := [0, 0, 3, 2, 0, 0, 4, 6, 2, 3, 1, 2, 6, 0, 1, 1, 4, 3, 1, 0, 0]
    let fits : Prop := if kind = 2 then 2 ≤ payload.length ∧ payload.length ≤ 40
      else lengths[kind.toNat - 1]? = some payload.length
    (kind = 0 ∨ 21 < kind.toNat → decodeRequest kind payload = .unknownKind) ∧
    (1 ≤ kind.toNat → kind.toNat ≤ 21 →
      (¬ fits → decodeRequest kind payload = .badLength) ∧
      (fits → ∃ r, decodeRequest kind payload = .request r ∧ requestKind r = kind ∧ requestPayload r = payload))) ∧
  ∀ ts : List Telegram, (∀ t ∈ ts, t.payload.length ≤ 255) →
    walkSection (ts.flatMap encodeTelegram) = ts.map .telegram ∧
    ∀ rest : List Byte, rest ≠ [] →
      (rest.length < 4 ∨ ∃ a k g n body, rest = a :: k :: g :: n :: body ∧ body.length < n.toNat) →
      walkSection (ts.flatMap encodeTelegram ++ rest) = ts.map .telegram ++ [.truncated]

/-- What TABLE_WRITE stores in an open shadow, TABLE_READ of the shadow returns: the named bytes of the entry, marked written.
Every other entry of the shadow, and every entry of the active bank, reads as before. -/
def Obligations.TableReadReturnsWhatTableWriteStored : Prop :=
  ∀ (s : State) (tag tag' table index : Byte) (entry : List Byte), s.tbs.shadow = .opened → table.toNat < 10 →
    index.toNat < entryCount table.toNat → entry.length = entryLength table.toNat →
    ∃ t, exec (.tableWrite tag table index entry) s = .next t ∧
      exec (.tableRead tag' 1 table index) t =
        .next (t.answered 3 tag' .done ([table, index, 1] ++ readsBack table.toNat index.toNat entry)) ∧
      (∀ p ∈ visitingOrder, p ≠ (table.toNat, index.toNat) →
        t.tbs.shadowBank.entryBytes p.1 p.2 = s.tbs.shadowBank.entryBytes p.1 p.2) ∧
      t.tbs.activeBank = s.tbs.activeBank

/-- What becomes of the telegrams of a frame. One addressed to the part is counted, one of another address passes it by. Among the
first four, one whose reply fits is executed by its owner and its reply is placed, with its own length, no longer than the space it
needed; one of an unknown kind or a wrong length is answered so, and one behind the fourth BUSY, without any change of state. One
whose reply does not fit changes nothing and ends the frame's telegrams. Behind them at most two events are placed, whatever became
of the telegrams: the oldest HIGH event, else the oldest NORMAL one, each in 16 bytes, leaving the queue, while the space holds it.
What the owner does with a request is what the row of its kind does as a command, and its reply is the row's; the kind byte of a
LINE_COMMAND names its row, 0 to 5, and one above 5 is REFUSED_RANGE with the state of the named line (log 43); where no line is named
either, the one byte of that reply stays open (log 5).
The space a request needs is the model's reading (log 23), and so is that the walk goes on behind a stop (log 22). -/
def Obligations.TelegramsAreTakenAndEventsPlaced : Prop :=
  (∀ (tag table index bank loop line mode group : Byte) (entry : List Byte) (expected first last point half ramp day : Half)
      (word : Word) (s : State),
    ∀ p ∈ ([(.tableOpen tag, .tableOpen), (.tableWrite tag table index entry, .tableWrite table index entry),
        (.tableRead tag bank table index, .tableRead bank table index), (.tableCommit tag expected, .tableCommit expected),
        (.tableAbandon tag, .tableAbandon), (.bankSwap tag, .bankSwap), (.pointRead tag first last, .pointRead first last),
        (.pointForce tag point word, .pointForce point word), (.pointRelease tag point, .pointRelease point),
        (.loopManual tag loop half, .loopManual loop half), (.loopAuto tag loop, .loopAuto loop),
        (.lineCommandStart tag line, .lineCommand line 0), (.lineCommandFeedOn tag line, .lineCommand line 1),
        (.lineCommandFeedOff tag line, .lineCommand line 2), (.lineCommandStop tag line, .lineCommand line 3),
        (.lineCommandReset tag line, .lineCommand line 4), (.resetFeeder tag line, .lineCommand line 5),
        (.dispatchOverride tag word ramp, .dispatchOverride word ramp), (.dispatchClear tag, .dispatchClear),
        (.outputMode tag mode, .outputMode mode), (.tripReset tag group, .tripReset group),
        (.recordRead tag line day index, .recordRead line day index), (.dayRead tag line day, .dayRead line day),
        (.ringInfo tag line, .ringInfo line), (.statusRead tag, .statusRead), (.restart tag, .restart)] :
        List (Instr × Request)),
      let a := takeRequest p.2 s
      exec p.1 s = .next { a.1 with
        replies := [{ kind := requestKind p.2, tag := tag, status := a.2.status, payload := a.2.payload }] }) ∧
  (∀ (line kind : Byte) (s : State), 5 < kind.toNat →
    (∀ l : Line, line.toNat = l.number →
      takeRequest (.lineCommand line kind) s = (s, { status := .refusedRange, payload := nat8 (s.lsv.get l).state.code })) ∧
    (line ≠ 1 → line ≠ 2 →
      ∃ byte, takeRequest (.lineCommand line kind) s = (s, { status := .refusedRange, payload := [byte] }))) ∧
  (∀ (c : FrameCtx) (t : Telegram) (n : Nat),
    let reply (st : Status) (payload : List Byte) : Reply := { kind := t.kind, tag := t.tag, status := st, payload := payload }
    let placed (s : State) (r : Reply) : FrameCtx :=
      { c with
        state := s, space := c.space - (6 + r.payload.length), replies := c.replies ++ [r],
        placed := c.placed ++ (nat8 c.state.rgi.address ++ [r.kind, r.tag] ++ nat8 r.status.code ++
          nat16 r.payload.length ++ r.payload) }
    let ended : FrameCtx := { c with stopped := true }
    (c.stopped = true → c.taken t n = c) ∧
    (c.stopped = false → 4 < n → c.taken t n = if 6 ≤ c.space then placed c.state (reply .busy []) else ended) ∧
    (c.stopped = false → n ≤ 4 →
      (t.kind = 0 ∨ 21 < t.kind.toNat →
        c.taken t n = if 6 ≤ c.space then placed c.state (reply .unknownKind []) else ended) ∧
      (decodeRequest t.kind t.payload = .badLength →
        c.taken t n = if 6 ≤ c.space then placed c.state (reply .refusedRange []) else ended) ∧
      (∀ r, decodeRequest t.kind t.payload = .request r →
        (spaceNeeded r ≤ c.space →
          let a := takeRequest r c.state
          c.taken t n = placed a.1 (reply a.2.status a.2.payload)) ∧
        (c.space < spaceNeeded r → c.taken t n = ended)))) ∧
  (∀ (r : Request) (s : State), 6 + (takeRequest r s).2.payload.length ≤ spaceNeeded r) ∧
  (∀ c : FrameCtx,
    (∀ t : Telegram,
      let mine := 1 ≤ c.state.rgi.address ∧ c.state.rgi.address ≤ 126 ∧ t.address.toNat = c.state.rgi.address
      (mine → c.walk (.telegram t) = ({ c with addressed := c.addressed + 1 } : FrameCtx).taken t (c.addressed + 1)) ∧
      (¬ mine → c.walk (.telegram t) = c)) ∧
    c.walk .truncated = { c with state := { c.state with rgi := { c.state.rgi with truncated := true } } }) ∧
  ∀ c : FrameCtx,
    let q := c.state.rgi
    let placed (e : Event) (r : Rgi) : FrameCtx :=
      { c with
        state := { c.state with rgi := r }, space := c.space - 16
        placed := c.placed ++ (nat8 q.address ++ [0x80] ++ nat8 e.kind.code ++ [if e.high then 1 else 0] ++ nat16 e.cycle ++
          nat16 e.plant.day ++ nat32 e.plant.ms ++ nat16 e.subject ++ nat16 e.detail) }
    (∀ f, c.step f .events = c.placeEvent.placeEvent) ∧
    (∀ e rest, q.high = e :: rest → 16 ≤ c.space → c.placeEvent = placed e { q with high := rest }) ∧
    (∀ e rest, q.high = [] → q.normal = e :: rest → 16 ≤ c.space → c.placeEvent = placed e { q with normal := rest }) ∧
    (q.high = [] ∧ q.normal = [] ∨ c.space < 16 → c.placeEvent = c)

/-! ## Table banks -/

/-- TABLE_OPEN copies the active bank into the shadow, clears marks and count and opens the shadow in every shadow state but
SWAP_PENDING, where it is COLLISION and changes nothing; in CONFIG, from power-on, the edit starts from empty entries. TABLE_ABANDON
closes an open or committed shadow and clears its marks and count; BANK_SWAP makes a committed shadow SWAP_PENDING. In the other shadow
states they answer as R30 and R32 give and change nothing. -/
def Obligations.ShadowIsOpenedAbandonedAndOffered : Prop :=
  (∀ (tag : Byte) (s : State),
     (s.tbs.shadow ≠ .swapPending →
       ∃ t, exec (.tableOpen tag) s = .next t ∧ t = ({ s with tbs := t.tbs } : State).answered 1 tag .done [] ∧
         t.tbs.shadow = .opened ∧ t.tbs.shadowBank = s.tbs.activeBank ∧ t.tbs.activeBank = s.tbs.activeBank ∧
         t.tbs.active = s.tbs.active ∧ t.tbs.bankValid = s.tbs.bankValid ∧ t.tbs.device = s.tbs.device ∧
         t.tbs.written = 0 ∧ ∀ i : Fin 488, t.tbs.marks.get i = false) ∧
     (s.tbs.shadow = .swapPending → exec (.tableOpen tag) s = .next (s.answered 1 tag .collision [])) ∧
     ∃ t, exec (.tableOpen tag) State.reset = .next t ∧ t.tbs.device = .config ∧ t.tbs.shadow = .opened ∧
       t.tbs.shadowBank = emptyBank) ∧
  (∀ (tag : Byte) (s : State),
     (s.tbs.shadow = .opened ∨ s.tbs.shadow = .committed →
       exec (.tableAbandon tag) s =
         .next (State.answered
           { s with tbs := { s.tbs with shadow := .closed, marks := Vector.replicate 488 false, written := 0 } } 5 tag .done [])) ∧
     (s.tbs.shadow = .closed → exec (.tableAbandon tag) s = .next (s.answered 5 tag .done [])) ∧
     (s.tbs.shadow = .swapPending → exec (.tableAbandon tag) s = .next (s.answered 5 tag .collision [])) ∧
     (s.tbs.shadow = .committed →
       exec (.bankSwap tag) s =
         .next (State.answered { s with tbs := { s.tbs with shadow := .swapPending } } 6 tag .done [])) ∧
     (s.tbs.shadow ≠ .committed → exec (.bankSwap tag) s = .next (s.answered 6 tag .refusedState [])))

/-- TABLE_WRITE by the first case of R24 that holds: where it is DONE, the entry is stored whole, its mark is set, the written count
grows by 1 where the mark was not set, and the rest of the store is as it was. TABLE_READ checks selector, table and index in that
order, else answers DONE with the entry as the named bank holds it and its mark, 0 for the active bank; it changes nothing. -/
def Obligations.TableWriteAndReadByTheFirstCase : Prop :=
  (∀ (tag table index : Byte) (entry : List Byte) (s : State),
     let refused (st : Status) := exec (.tableWrite tag table index entry) s = .next (s.answered 2 tag st [])
     (s.tbs.shadow = .closed → refused .notOpen) ∧ (s.tbs.shadow = .committed → refused .refusedState) ∧
     (s.tbs.shadow = .swapPending → refused .collision) ∧
     (s.tbs.shadow = .opened → 10 ≤ table.toNat → refused .unknownTable) ∧
     (s.tbs.shadow = .opened → table.toNat < 10 → entryCount table.toNat ≤ index.toNat → refused .refusedRange) ∧
     (s.tbs.shadow = .opened → table.toNat < 10 → index.toNat < entryCount table.toNat →
       entry.length ≠ entryLength table.toNat → refused .refusedRange) ∧
     (s.tbs.shadow = .opened → table.toNat < 10 → index.toNat < entryCount table.toNat →
       entry.length = entryLength table.toNat →
       ∃ t, exec (.tableWrite tag table index entry) s = .next t ∧
         t = ({ s with tbs := t.tbs } : State).answered 2 tag .done [] ∧ t.tbs.shadow = .opened ∧
         t.tbs.shadowBank = s.tbs.shadowBank.putEntry table.toNat index.toNat entry ∧
         t.tbs.activeBank = s.tbs.activeBank ∧ t.tbs.active = s.tbs.active ∧ t.tbs.device = s.tbs.device ∧
         t.tbs.bankValid = s.tbs.bankValid ∧ t.tbs.mark table.toNat index.toNat = true ∧
         (∀ p ∈ visitingOrder, p ≠ (table.toNat, index.toNat) → t.tbs.mark p.1 p.2 = s.tbs.mark p.1 p.2) ∧
         t.tbs.written = s.tbs.written + (if s.tbs.mark table.toNat index.toNat then 0 else 1))) ∧
  (∀ (tag bank table index : Byte) (s : State),
     exec (.tableRead tag bank table index) s =
       .next
         (if bank ≠ 0 ∧ bank ≠ 1 then s.answered 3 tag .refusedRange []
         else if 9 < table.toNat then s.answered 3 tag .unknownTable []
         else if ¬ index.toNat < entryCount table.toNat then s.answered 3 tag .refusedRange []
         else if bank = 0 then
           s.answered 3 tag .done ([table, index, 0] ++ s.tbs.activeBank.entryBytes table.toNat index.toNat)
         else
           s.answered 3 tag .done
             ([table, index, if s.tbs.mark table.toNat index.toNat then 1 else 0] ++
               s.tbs.shadowBank.entryBytes table.toNat index.toNat)))

/-- TABLE_COMMIT in an open shadow: COUNT_MISMATCH with the written count; else INCONSISTENT with an entry that breaks a check
while no entry before it in the visiting order does; else DONE, and the shadow is COMMITTED with every entry meeting its
checks. In every other shadow state it is REFUSED_STATE. A copy of a checked active bank passes, and the empty bank fails at its
first entry. -/
def Obligations.TableCommitFindsTheFirstOffender : Prop :=
  ∀ (tag : Byte) (expected : Half) (s : State),
    (s.tbs.shadow ≠ .opened → exec (.tableCommit tag expected) s = .next (s.answered 4 tag .refusedState [])) ∧
    (s.tbs.shadow = .opened → expected.toNat ≠ s.tbs.written →
      exec (.tableCommit tag expected) s = .next (s.answered 4 tag .countMismatch (nat16 s.tbs.written))) ∧
    (∀ before t i after, s.tbs.shadow = .opened → expected.toNat = s.tbs.written →
      visitingOrder = before ++ (t, i) :: after → (∀ p ∈ before, entryBroken s.tbs.shadowBank p.1 p.2 = false) →
      entryBroken s.tbs.shadowBank t i = true →
      exec (.tableCommit tag expected) s = .next (s.answered 4 tag .inconsistent (nat8 t ++ nat8 i))) ∧
    (s.tbs.shadow = .opened → expected.toNat = s.tbs.written →
      (∀ p ∈ visitingOrder, entryBroken s.tbs.shadowBank p.1 p.2 = false) →
      exec (.tableCommit tag expected) s =
        .next (State.answered { s with tbs := { s.tbs with shadow := .committed } } 4 tag .done [])) ∧
    (s.tbs.shadow = .opened → expected.toNat = 0 → s.tbs.written = 0 → s.tbs.shadowBank = s.tbs.activeBank →
      (s.tbs.bankValid = true → BanksChecked s.tbs →
        exec (.tableCommit tag expected) s =
          .next (State.answered { s with tbs := { s.tbs with shadow := .committed } } 4 tag .done [])) ∧
      (s.tbs.activeBank = emptyBank →
        exec (.tableCommit tag expected) s = .next (s.answered 4 tag .inconsistent [0, 0])))

/-- Validation finds no offending entry in a bank exactly when it meets every check of T0 to T3 and T6 to T8. -/
def Obligations.ValidatedBankMeetsEveryCheck : Prop :=
  ∀ b : Bank, firstOffender b = none ↔
    (4 ≤ b.ring.tCyc.toNat ∧ b.ring.tCyc.toNat ≤ 50 ∧ 20 ≤ b.ring.lossTime.toNat ∧ b.ring.lossTime.toNat ≤ 2000) ∧
    b.split.share.toNat ≤ 100 ∧
    (∀ l : Line, (b.emission.get l).o2Ref.toNat < (b.emission.get l).o2Ceil.toNat ∧
      (b.emission.get l).o2Ceil.toNat ≤ 2000 ∧ (b.emission.get l).release.toNat < (b.emission.get l).action.toNat) ∧
    (∀ i : Fin 256, yes (b.points.get i).inUse = true → (b.points.get i).slot.toNat ≤ 511) ∧
    (∀ k : Fin 64, (b.outputs.get k).source ≠ 0 →
      sourceListed (b.outputs.get k).source.toNat = true ∧ (b.outputs.get k).window.toNat ≤ 63 ∧
      (b.outputs.get k).rawLow.toNat < (b.outputs.get k).rawHigh.toNat ∧
      (∀ j : Fin 64, j ≠ k → (b.outputs.get j).source ≠ 0 → (b.outputs.get j).window ≠ (b.outputs.get k).window) ∧
      ((b.outputs.get k).pairId ≠ 0 → ∃ p m, pairOf b k = some (p, m) ∧ p.val + 1 = (b.outputs.get k).pairId.toNat)) ∧
    (∀ k : Fin 64, (b.outputs.get k).source = 0 → (b.outputs.get k).pairId = 0) ∧
    (∀ p : Fin 16, yes (b.pairs.get p).inUse = true →
      ∃ m n : Fin 64, m ≠ n ∧ (b.pairs.get p).memberA.toNat = m.val ∧ (b.pairs.get p).memberB.toNat = n.val ∧
        pairOf b m = some (p, n) ∧ pairOf b n = some (p, m)) ∧
    (∀ i : Fin 12, yes (b.loops.get i).inService = true →
      b.ring.tCyc.toNat ≤ (b.loops.get i).ti.toNat ∧ (b.loops.get i).outMin.toNat < (b.loops.get i).outMax.toNat) ∧
    (∀ (l : Line) (n : Fin 16), yes (stepEntry b l n).inUse = true →
      ((stepEntry b l n).next = 255 ∨
        ∃ m : Fin 16, (stepEntry b l n).next.toNat = m.val ∧ yes (stepEntry b l m).inUse = true) ∧
      (∀ a : Fin 4, ¬ ((stepEntry b l n).outputs.getLsbD (2 * a.val) = true ∧
        (stepEntry b l n).outputs.getLsbD (2 * a.val + 1) = true)) ∧
      (completionOf (stepEntry b l n) ≠ .limit → (stepEntry b l n).time.toNat ≤ (stepEntry b l n).timeout.toNat)) ∧
    (∀ i : Fin 48, yes (b.blocks.get i).inUse = true →
      1 ≤ (b.blocks.get i).ramp.toNat ∧ (b.blocks.get i).target.toNat ≤ b.turbine.rated.toNat ∧
      (b.blocks.get i).start.toNat ≤ 1439 ∧
      ∀ j : Fin 48, j < i → yes (b.blocks.get j).inUse = true →
        (b.blocks.get j).start.toNat < (b.blocks.get i).start.toNat)

/-! ## Points -/

/-- POINT_READ clamps its last index to 255, refuses a first index above it, and else returns the smaller of the span and 8
points of the image as published. It changes nothing. -/
def Obligations.PointReadReturnsUpToEightPoints : Prop :=
  ∀ (tag : Byte) (first last : Half) (s : State),
    (min last.toNat 255 < first.toNat → exec (.pointRead tag first last) s = .next (s.answered 7 tag .refusedRange [])) ∧
    (∀ n, first.toNat ≤ min last.toNat 255 → n = min (min last.toNat 255 - first.toNat + 1) 8 →
      ∃ bytes, exec (.pointRead tag first last) s = .next (s.answered 7 tag .done (nat8 n ++ bytes)) ∧
        bytes.length = 7 * n ∧
        ∀ k i : Nat, ∀ h : i < 256, k < n → i = first.toNat + k →
          (bytes.drop (7 * k)).take 7 =
            int32 (s.piu.image.get ⟨i, h⟩).value ++ nat8 (s.piu.image.get ⟨i, h⟩).quality.code ++
              nat16 (s.piu.image.get ⟨i, h⟩).age)

/-- POINT_FORCE by the first case of R15 that holds, and POINT_RELEASE by those of R16. Where they are DONE, the force is stored
or removed and nothing else of the part changes but that a release empties the filter at the point's next evaluation. -/
def Obligations.ForceIsStoredAndReleased : Prop :=
  ∀ (tag : Byte) (point : Half) (value : Word) (s : State),
    (256 ≤ point.toNat →
      exec (.pointForce tag point value) s = .next (s.answered 8 tag .refusedRange []) ∧
      exec (.pointRelease tag point) s = .next (s.answered 9 tag .refusedRange [])) ∧
    ∀ i : Fin 256, point.toNat = i.val →
      (s.running = false ∨ yes (s.tables.points.get i).inUse = false →
        exec (.pointForce tag point value) s = .next (s.answered 8 tag .refusedState [])) ∧
      (s.running = true → yes (s.tables.points.get i).inUse = true →
        ((pointKind (s.tables.points.get i) = .binary ∧ value.toInt ≠ 0 ∧ value.toInt ≠ 1) ∨
          (pointKind (s.tables.points.get i) = .counter ∧ (value.toInt < 0 ∨ 65535 < value.toInt)) ∨
          (pointKind (s.tables.points.get i) = .analog ∧ (value.toInt < -32768 ∨ 65535 < value.toInt))) →
        exec (.pointForce tag point value) s = .next (s.answered 8 tag .refusedRange [])) ∧
      (s.running = true → yes (s.tables.points.get i).inUse = true →
        ((pointKind (s.tables.points.get i) = .binary ∧ (value.toInt = 0 ∨ value.toInt = 1)) ∨
          (pointKind (s.tables.points.get i) = .counter ∧ 0 ≤ value.toInt ∧ value.toInt ≤ 65535) ∨
          (pointKind (s.tables.points.get i) = .analog ∧ -32768 ≤ value.toInt ∧ value.toInt ≤ 65535)) →
        exec (.pointForce tag point value) s =
          .next (State.answered { s with piu := { s.piu with
            work := s.piu.work.set i { s.piu.work.get i with force := some value.toInt } } } 8 tag .done [])) ∧
      ((s.piu.work.get i).force = none →
        exec (.pointRelease tag point) s = .next (s.answered 9 tag .refusedState [])) ∧
      ((s.piu.work.get i).force ≠ none →
        exec (.pointRelease tag point) s =
          .next (State.answered { s with piu := { s.piu with
            work := s.piu.work.set i { s.piu.work.get i with force := none, released := true } } } 9 tag .done []))

/-- A frame whose unchanged toggle brings the age of an in-use point, not yet STALE, to its stale limit makes it STALE: the
published value is held and the working part keeps its history and qualified value. POINT_QUALITY is raised, and no other
point changes. A sample with the toggle changed, or with the station fault, does not make the point STALE.
Taken as a command by itself, which is the model's choice (log 1). -/
def Obligations.StalePointHoldsItsValue : Prop :=
  ∀ (i : Fin 256) (sample : Slot) (s : State),
    let e := s.tables.points.get i
    let w := s.piu.work.get i
    (s.running = true → yes e.inUse = true → w.condition ≠ .stale → w.force = none → w.toggle = some sample.toggle →
      sample.fault = false → staleLimitOf e ≤ min 65535 (w.age + 1) →
      exec (.pointStale i sample) s =
        .next (({ s with piu :=
          { work := s.piu.work.set i { w with condition := .stale, age := min 65535 (w.age + 1), run := 0 }
            image := s.piu.image.set i
              { value := (s.piu.image.get i).value, quality := .stale, age := min 65535 (w.age + 1), edge := w.edge,
                newEdge := false } } } : State).raiseAll
          [{ kind := .pointQuality, high := false, cycle := s.rgi.cycleNow, plant := s.rgi.plant, subject := i.val,
             detail := 256 * w.condition.code + 2 }])) ∧
    (sample.fault = true ∨ w.toggle = some (!sample.toggle) ∨ w.toggle = none →
      exec (.pointStale i sample) s = .next s)

/-- The sample that ends a disagreement run of the qualification count changes the qualified value of an unforced BINARY point:
the new value is published with an edge record that carries the direction, the cycle number and the run time, and the
new-edge flag.
Taken as a command by itself, which is the model's choice (log 1). -/
def Obligations.QualifiedChangeRecordsAnEdge : Prop :=
  ∀ (i : Fin 256) (sample : Slot) (q : Bool) (s : State),
    let e := s.tables.points.get i
    let w := s.piu.work.get i
    s.running = true → yes e.inUse = true → pointKind e = .binary → w.qualified = some q → w.force = none →
      w.condition = .good → sample.fault = false → w.toggle = some (!sample.toggle) →
      ((sample.raw != 0) != yes e.invert) = !q → w.run = qualCountOf e →
      (s.piu.image.get i).value = (if q then 1 else 0) →
      ∃ t, exec (.binaryQualifiedChange i sample) s = .next t ∧ t = { s with piu := t.piu } ∧
        t.piu.image.get i =
          { value := if q then 0 else 1, quality := .good, age := 0,
            edge := some { rising := !q, cycle := s.rgi.cycleNow, runTime := s.rgi.runTime }, newEdge := true } ∧
        (t.piu.work.get i).qualified = some (!q) ∧ (t.piu.work.get i).run = 0 ∧
        (∀ j, j ≠ i → t.piu.image.get j = s.piu.image.get j ∧ t.piu.work.get j = s.piu.work.get j)

/-- The scaling of an ANALOG raw value is the exact quotient rounded to the nearest, halves away from zero, and the range clamp
takes a value above range high to range high and one below range low to range low, keeps the others, and tells whether it acted.
With range low above range high a value above high becomes high and every other one becomes low. -/
def Obligations.AnalogScalingRoundsToTheNearest : Prop :=
  (∀ (e : PointEntry) (raw : Half), e.rawHigh ≠ e.rawLow →
    let n := (raw.toInt - e.rawLow.toInt) * (engHighOf e - engLowOf e)
    let d := e.rawHigh.toInt - e.rawLow.toInt
    let q := scaleRaw e raw - engLowOf e
    2 * (n - q * d).natAbs ≤ d.natAbs ∧ (2 * (n - q * d).natAbs = d.natAbs → n.natAbs < (q * d).natAbs)) ∧
  (∀ (e : PointEntry) (raw : Half), e.rawHigh = e.rawLow → scaleRaw e raw = engLowOf e) ∧
  (∀ (e : PointEntry) (v : Int), rangeLowOf e ≤ rangeHighOf e →
    rangeLowOf e ≤ (rangeClamp e v).1 ∧ (rangeClamp e v).1 ≤ rangeHighOf e ∧
      ((rangeClamp e v).2 = false ↔ rangeLowOf e ≤ v ∧ v ≤ rangeHighOf e) ∧
      ((rangeClamp e v).2 = false → (rangeClamp e v).1 = v)) ∧
  (∀ (e : PointEntry) (v : Int), rangeLowOf e ≤ rangeHighOf e →
    (rangeHighOf e < v → rangeClamp e v = (rangeHighOf e, true)) ∧ (v < rangeLowOf e → rangeClamp e v = (rangeLowOf e, true)) ∧
      (rangeLowOf e ≤ v → v ≤ rangeHighOf e → rangeClamp e v = (v, false))) ∧
  (∀ (e : PointEntry) (v : Int), rangeHighOf e < rangeLowOf e →
    (rangeHighOf e < v → rangeClamp e v = (rangeHighOf e, true)) ∧ (v ≤ rangeHighOf e → rangeClamp e v = (rangeLowOf e, true)))

/-! ## Loops -/

/-- LOOP_MANUAL and LOOP_AUTO by the first cases of R49 and R50 that hold, whatever the loop's effective mode; where they are
DONE nothing but the one loop record changes. -/
def Obligations.LoopTelegramsSetTheOperatorMode : Prop :=
  ∀ (tag loop : Byte) (value : Half) (s : State),
    (12 ≤ loop.toNat ∨ 10000 < value.toNat →
      exec (.loopManual tag loop value) s = .next (s.answered 10 tag .refusedRange [])) ∧
    (12 ≤ loop.toNat → exec (.loopAuto tag loop) s = .next (s.answered 11 tag .refusedRange [])) ∧
    ∀ i : Fin 12, loop.toNat = i.val →
      (s.running = false ∨ yes (s.tables.loops.get i).inService = false →
        (value.toNat ≤ 10000 → exec (.loopManual tag loop value) s = .next (s.answered 10 tag .refusedState [])) ∧
        exec (.loopAuto tag loop) s = .next (s.answered 11 tag .refusedState [])) ∧
      (s.running = true → yes (s.tables.loops.get i).inService = true →
        (value.toNat ≤ 10000 →
          ∃ u : Nat, (u : Int) = clampInt (outMinOf (s.tables.loops.get i)) (outMaxOf (s.tables.loops.get i)) value.toNat ∧
            exec (.loopManual tag loop value) s =
              .next (State.answered { s with lpe := { s.lpe with
                loops := s.lpe.loops.set i { s.lpe.loops.get i with operator := .manual, u := u, r := 0 } } } 10 tag .done
                (nat16 u))) ∧
        exec (.loopAuto tag loop) s =
          .next (State.answered { s with lpe := { s.lpe with
            loops := s.lpe.loops.set i { s.lpe.loops.get i with operator := .auto, ePrev := none } } } 11 tag .done []))

/-- The work of a loop by its effective mode. In AUTO, with D = 1000 Ti and N as R42 forms it, nothing is lost: u and the
remainder account for N exactly, or u stands at the limit that the sum lies beyond and the remainder is cleared.
What decides the mode and what the work reads, all as last published: the tracked value is that written through the lowest-numbered
output record that names the loop and carries its override mark; the loop is held by a PV STALE or BAD, and by its job as R38 and
R46 have it (ring loss, the remaining cause, does not stand in the work of an accepted frame); its set point and feed-forward term
are those of its role where the entry selects them, the constant and 0 else. A code above 1 selects as 1 does (log 8). The LPE's work
changes nothing of the other blocks, and in CONFIG nothing at all. -/
def Obligations.LoopWorkByEffectiveMode : Prop :=
  (∀ (i : Fin 12) (s : State), s.running = true →
    let e := s.tables.loops.get i
    let r := s.lpe.loops.get i
    let t := (lpeWork s).lpe.loops.get i
    (yes e.inService = false →
      t.operator = .auto ∧ t.mode = .off ∧ t.u = outMinOf e ∧ t.published = outMinOf e ∧ t.r = 0 ∧ t.ePrev = none) ∧
    (yes e.inService = true → outMinOf e ≤ outMaxOf e →
      (∀ v, trackedValue s i = some v →
        t.operator = r.operator ∧ t.mode = .track ∧ t.r = 0 ∧ t.ePrev = none ∧ t.published = t.u ∧
          t.u = max (outMinOf e) (min (outMaxOf e) v)) ∧
      (trackedValue s i = none → holdCause s i e = true →
        t.operator = r.operator ∧ t.mode = .hold ∧ t.r = 0 ∧ t.ePrev = none ∧
          (lineNotOperating s i = true → t.u = outMinOf e ∧ t.published = outMinOf e) ∧
          (lineNotOperating s i = false → t.u = r.u ∧
            t.published = max (outMinOf e) (min (outMaxOf e) (r.u + feedForward s i e)))) ∧
      (trackedValue s i = none → holdCause s i e = false → r.operator = .manual →
        t = { r with mode := .manual, r := 0, ePrev := none, published := r.u }) ∧
      (trackedValue s i = none → holdCause s i e = false → r.operator = .auto →
        let d := 1000 * tiOf s.tables e
        let pv := (s.point e.pvPoint).value
        let err := if loopReversed e then pv - setPointOf s i e else setPointOf s i e - pv
        let n := (e.kp.toNat : Int) * ((err - r.ePrev.getD err) * tiOf s.tables e + err * (s.tables.tCyc : Int))
        t.operator = .auto ∧ t.mode = .auto ∧ t.ePrev = some err ∧
          t.published = max (outMinOf e) (min (outMaxOf e) (t.u + feedForward s i e)) ∧
          ((outMinOf e ≤ t.u ∧ t.u ≤ outMaxOf e ∧ t.u * d + t.r = r.u * d + r.r + n ∧ 0 ≤ t.r ∧ t.r < d) ∨
            (t.u = outMaxOf e ∧ t.r = 0 ∧ (outMaxOf e + 1) * d ≤ r.u * d + r.r + n) ∨
            (t.u = outMinOf e ∧ t.r = 0 ∧ r.u * d + r.r + n < outMinOf e * d))))) ∧
  (∀ s : State, lpeWork s = { s with lpe := (lpeWork s).lpe } ∧ (s.running = false → lpeWork s = s)) ∧
  ∀ (i : Fin 12) (s : State),
    let e := s.tables.loops.get i
    let line : Line := if i.val % 2 = 0 then .one else .two
    let record := (s.lsv.get line).pub
    let dosing := s.rdu.lines.get line
    let marked (k : Fin 64) : Prop :=
      (s.tables.outputs.get k).source.toNat = i.val + 1 ∧ (s.otu.pub.get k).override = true
    let maintained (k : Fin 6) : Prop := ((s.eau.lines.get line).inst.get k).flag = .maintHold
    let notOperating : Prop := 6 ≤ i.val ∧ i.val ≤ 9 ∧ record.operating = false
    let constant : Int := max (-32768) (min 65535 e.spConstant.toInt)
    ((∀ k, ¬ marked k) → trackedValue s i = none) ∧
    (∀ k, marked k → (∀ j, j < k → ¬ marked j) → trackedValue s i = some (s.otu.pub.get k).back) ∧
    (lineNotOperating s i = true ↔ notOperating) ∧
    (holdCause s i e = true ↔
      (s.point e.pvPoint).quality = .stale ∨ (s.point e.pvPoint).quality = .bad ∨ (i.val ≤ 1 ∧ record.state ≠ .waste) ∨
        ((i.val = 6 ∨ i.val = 7) ∧ maintained 3) ∨ ((i.val = 8 ∨ i.val = 9) ∧ maintained 1) ∨ notOperating) ∧
    setPointOf s i e =
      (if yes e.spSource = false then constant
      else if i.val ≤ 1 then (record.steamSetPoint : Int)
      else if i.val ≤ 3 then (record.o2SetPoint : Int)
      else if i.val ≤ 5 then constant
      else if i.val ≤ 7 then (dosing.ureaSet : Int)
      else if i.val ≤ 9 then (dosing.limeSet : Int)
      else if i.val = 10 then (s.sdu.pubBypassSet : Int)
      else (s.sdu.pubExtractionSet : Int)) ∧
    feedForward s i e =
      (if yes e.ffSource = false then 0
      else if i.val = 6 ∨ i.val = 7 then (dosing.ureaTerm : Int)
      else if i.val = 8 ∨ i.val = 9 then (dosing.limeTerm : Int)
      else if i.val = 11 then (s.sdu.pubExtractionTerm : Int)
      else 0)

/-! ## Grate sequencers -/

/-- In PAUSE, where no row above its own work holds in R60, a sequencer whose pause end is reached starts a cycle at step 0 of
the active bank when the published line record grants permission and asks for a stroke; a step 0 not in use faults it. The pause end
is the base for kind ENTRY, and the base and 3,600,000 ÷ strokes for kinds CYCLE and RELEASE, absent at 0 strokes. In PAUSE and in
STEPPING no row above holds exactly when the line record is none of OFF, START and TRIPPED, no actuator shows both its limits reached
on points GOOD or FORCED, and no published TRIPPED group has a feed stop on the line.
Taken as a command by itself, which is the model's choice (log 1). -/
def Obligations.StrokeCycleStartsAtStepZero : Prop :=
  (∀ (l : Line) (s : State) (ends : Nat),
    let g := s.gsq.get l
    let e := stepEntry s.tables l 0
    ownWork s l = true → g.state = .pause → pauseEnd g (s.lsv.get l).pub.strokes = some ends → ends ≤ s.rgi.runTime →
      (s.lsv.get l).pub.permission = true → 1 ≤ (s.lsv.get l).pub.strokes →
      (yes e.inUse = true →
        exec (.strokeCycleStart l) s =
          .next { s with gsq := s.gsq.set l { g with
            state := .stepping, step := some (0, e), timerStart := none, demands := e.outputs,
            cycleStart := s.rgi.runTime, pauseBase := some (s.rgi.runTime, .cycle),
            pub := { state := .stepping, demands := e.outputs, cycleCount := g.cycleCount, feed := g.feed } } }) ∧
      (yes e.inUse = false →
        exec (.strokeCycleStart l) s =
          .next (({ s with gsq := s.gsq.set l { g with
            state := .fault, step := none, timerStart := none, demands := 0, current := none, previous := none, feed := 0,
            pub := { state := .fault, demands := 0, cycleCount := g.cycleCount, feed := 0 } } } : State).raiseAll
            [{ kind := .seqFault, high := true, cycle := s.rgi.cycleNow, plant := s.rgi.plant,
               subject := l.number, detail := 3 * 256 + 0 }]))) ∧
  (∀ (g : Gsq) (strokes : Nat),
    (g.pauseBase = none → pauseEnd g strokes = none) ∧
    (∀ base, g.pauseBase = some (base, .entry) → pauseEnd g strokes = some base) ∧
    ∀ base kind, g.pauseBase = some (base, kind) → kind = .cycle ∨ kind = .release →
      (strokes = 0 → pauseEnd g strokes = none) ∧
      (1 ≤ strokes → pauseEnd g strokes = some (base + 3600000 / strokes))) ∧
  ∀ (l : Line) (s : State), (s.gsq.get l).state = .pause ∨ (s.gsq.get l).state = .stepping →
    let line := (s.lsv.get l).pub.state
    let reached (n : Fin 8) : Prop :=
      let p := s.point ((s.tables.combustion.get l).limitPoints.get n)
      (p.quality = .good ∨ p.quality = .forced) ∧ p.value = 1
    (ownWork s l = true ↔
      s.running = true ∧ line ≠ .off ∧ line ≠ .start ∧ line ≠ .tripped ∧
        (∀ a : Fin 4, ¬ (reached ⟨2 * a.val, by omega⟩ ∧ reached ⟨2 * a.val + 1, by omega⟩)) ∧
        ∀ k : Fin 8, s.otu.pubGroups.get k = true → effectIncludes (s.tables.groups.get k).feedStop l = false)

/-- A step's timer starts at the run time of the work that finds every output of the step taken on and not PENDING; a step
whose timer has reached its timeout with its condition unmet faults the sequencer with STEP_TIMEOUT and the step.
Taken as a command by itself, which is the model's choice (log 1). -/
def Obligations.StepTimerStartsAndTimesOut : Prop :=
  ∀ (l : Line) (s : State) (n : Nat) (e : StepEntry),
    let g := s.gsq.get l
    ownWork s l = true → g.state = .stepping → g.step = some (n, e) →
      (g.timerStart = none →
        (∀ j < 8, e.outputs.getLsbD j = true → ∀ k : Fin 64,
          (s.tables.outputs.get k).source.toNat = 16 + 8 * l.offset + j →
            (s.otu.pub.get k).source = 10000 ∧ (s.otu.pub.get k).pending = false) →
        exec (.stepTimerStart l) s =
          .next { s with gsq := s.gsq.set l { g with
            timerStart := some s.rgi.runTime,
            pub := { state := .stepping, demands := g.demands, cycleCount := g.cycleCount, feed := g.feed } } }) ∧
      (∀ t, g.timerStart = some t → conditionMet s l e (s.rgi.runTime - t) = false →
        stepTimeoutOf e ≤ s.rgi.runTime - t →
        exec (.stepTimeout l) s =
          .next (({ s with gsq := s.gsq.set l { g with
            state := .fault, step := none, timerStart := none, demands := 0, current := none, previous := none, feed := 0,
            pub := { state := .fault, demands := 0, cycleCount := g.cycleCount, feed := 0 } } } : State).raiseAll
            [{ kind := .seqFault, high := true, cycle := s.rgi.cycleNow, plant := s.rgi.plant,
               subject := l.number, detail := 2 * 256 + n }]))

/-- A step whose condition is met hands over to the step it names, taken from the active bank, or faults the sequencer where
that is not in use; at END the cycle is captured and counted and the feed estimate is formed from the two last starts.
The condition LIMIT is met when every limit point of the mask is GOOD or FORCED and reads its limit value, TIME when the step timer
has reached the time, LIMIT_OR_TIME by either. A code above 2 is taken as LIMIT_OR_TIME (log 8), and a time above 60,000 as 60,000
(log 56).
Taken as a command by itself, which is the model's choice (log 1). -/
def Obligations.StepCompletesByTransferOrEnd : Prop :=
  (∀ (l : Line) (s : State) (n t : Nat) (e : StepEntry),
    let g := s.gsq.get l
    ownWork s l = true → g.state = .stepping → g.step = some (n, e) → g.timerStart = some t →
      conditionMet s l e (s.rgi.runTime - t) = true →
      (∀ m : Fin 16, e.next.toNat = m.val → yes (stepEntry s.tables l m).inUse = true →
        exec (.stepComplete l) s =
          .next { s with gsq := s.gsq.set l { g with
            state := .stepping, step := some (m.val, stepEntry s.tables l m), timerStart := none,
            demands := (stepEntry s.tables l m).outputs,
            pub := { state := .stepping, demands := (stepEntry s.tables l m).outputs, cycleCount := g.cycleCount,
                     feed := g.feed } } }) ∧
      (∀ m : Fin 16, e.next.toNat = m.val → yes (stepEntry s.tables l m).inUse = false →
        exec (.stepComplete l) s =
          .next (({ s with gsq := s.gsq.set l { g with
            state := .fault, step := none, timerStart := none, demands := 0, current := none, previous := none, feed := 0,
            pub := { state := .fault, demands := 0, cycleCount := g.cycleCount, feed := 0 } } } : State).raiseAll
            [{ kind := .seqFault, high := true, cycle := s.rgi.cycleNow, plant := s.rgi.plant,
               subject := l.number, detail := 3 * 256 + m.val }])) ∧
      (e.next = 255 →
        ∃ u, exec (.stepComplete l) s = .next u ∧ u = { s with gsq := s.gsq.set l (u.gsq.get l) } ∧
          (u.gsq.get l).state = .pause ∧ (u.gsq.get l).demands = 0 ∧ (u.gsq.get l).step = none ∧
          (u.gsq.get l).pauseBase = g.pauseBase ∧ (u.gsq.get l).current = some g.cycleStart ∧
          (∀ c, g.current = some c → (u.gsq.get l).previous = some c ∧
            (u.gsq.get l).feed =
              min 1000000 (massOf (s.tables.combustion.get l) * 3600000 / (g.cycleStart - c))) ∧
          (g.current = none → g.previous = none → (u.gsq.get l).previous = none ∧ (u.gsq.get l).feed = 0) ∧
          (u.gsq.get l).cycleCount = g.cycleCount + 1 ∧
          (u.gsq.get l).pub = { state := .pause, demands := 0, cycleCount := g.cycleCount + 1, feed := (u.gsq.get l).feed })) ∧
  ∀ (l : Line) (s : State) (e : StepEntry) (timer : Nat),
    let limits : Prop := ∀ j : Fin 8, e.limitMask.getLsbD j.val = true →
      let p := s.point ((s.tables.combustion.get l).limitPoints.get j)
      (p.quality = .good ∨ p.quality = .forced) ∧ p.value = if e.limitValue.getLsbD j.val then 1 else 0
    let time : Prop := min 60000 e.time.toNat ≤ timer
    (e.completion = 0 → (conditionMet s l e timer = true ↔ limits)) ∧
    (e.completion = 1 → (conditionMet s l e timer = true ↔ time)) ∧
    (2 ≤ e.completion.toNat → (conditionMet s l e timer = true ↔ limits ∨ time))

/-- RESET_FEEDER in RUN takes a sequencer from FAULT to STOPPED and leaves the line state as it is; in CONFIG and in every other
state it is REFUSED_STATE, and for a line other than 1 or 2 it is REFUSED_RANGE; the one byte of that reply stays open (log 5). -/
def Obligations.ResetFeederLeavesFault : Prop :=
  ∀ (tag line : Byte) (s : State),
    (line ≠ 1 → line ≠ 2 →
      ∃ r, exec (.resetFeeder tag line) s = .next (s.withReplies [r]) ∧ r.kind = 12 ∧ r.tag = tag ∧
        r.status = .refusedRange) ∧
    ∀ l : Line, line.toNat = l.number →
      (s.running = false ∨ (s.gsq.get l).state ≠ .fault →
        exec (.resetFeeder tag line) s = .next (s.answered 12 tag .refusedState (nat8 (s.lsv.get l).state.code))) ∧
      (s.running = true → (s.gsq.get l).state = .fault →
        exec (.resetFeeder tag line) s =
          .next (State.answered { s with gsq := s.gsq.set l { s.gsq.get l with
            state := .stopped, step := none, timerStart := none, demands := 0, current := none, previous := none,
            feed := 0 } } 12 tag .done (nat8 (s.lsv.get l).state.code)))

/-- In every state, a work of a sequencer that brings it into STEPPING found the published line record granting feed permission
and asking for at least one stroke an hour; and a work never ends with a demand on outside STEPPING. Above the state's own work
stand the rows of R60: a line record of OFF, START or TRIPPED stops it, a limit conflict faults it with the lowest actuator, a
feed stop cause holds it, and with neither hold cause it is released to PAUSE; STOPPED goes to PAUSE in WASTE alone.
Where none of these rows holds, a work in PAUSE starts the cycle as STROKE_CYCLE_START does exactly when it is due, and else only
publishes; a work in STEPPING starts the timer where it is absent and every output of the step is on, and then, with the timer
running, completes the step as STEP_COMPLETE does, else times out as STEP_TIMEOUT does, else only publishes. In CONFIG a work changes
nothing. That a work after a RESET_FEEDER publishes PAUSE in WASTE, and not the STOPPED of R75, is the model's choice (log 57). -/
def Obligations.FeedingNeedsPermission : Prop :=
  (∀ (l : Line) (s : State), s.running = true →
    let g := s.gsq.get l
    let h := (gsqWork l s).gsq.get l
    (h.state = .stepping → g.state ≠ .stepping →
      g.state = .pause ∧ (s.lsv.get l).pub.permission = true ∧ 1 ≤ (s.lsv.get l).pub.strokes) ∧
    (SequencerSound g → h.state ≠ .stepping → h.demands = 0 ∧ h.pub.demands = 0)) ∧
  (∀ (l : Line) (s : State), s.running = true →
    let g := s.gsq.get l
    let line := (s.lsv.get l).pub.state
    let active := g.state = .pause ∨ g.state = .stepping ∨ g.state = .held
    let stops := line = .off ∨ line = .start ∨ line = .tripped
    let reads1 (n : Fin 8) : Prop :=
      let p := s.point ((s.tables.combustion.get l).limitPoints.get n)
      (p.quality = .good ∨ p.quality = .forced) ∧ p.value = 1
    let conflict (a : Fin 4) : Prop := reads1 ⟨2 * a.val, by omega⟩ ∧ reads1 ⟨2 * a.val + 1, by omega⟩
    let feedStop := ∃ k : Fin 8, s.otu.pubGroups.get k = true ∧ effectIncludes (s.tables.groups.get k).feedStop l = true
    let becomes (h : Gsq) : State := { s with gsq := s.gsq.set l { h with
      pub := { state := h.state, demands := h.demands, cycleCount := h.cycleCount, feed := h.feed } } }
    (active → stops → gsqWork l s = becomes { g with
      state := .stopped, step := none, timerStart := none, demands := 0, current := none, previous := none, feed := 0 }) ∧
    (∀ a : Fin 4, active → ¬ stops → conflict a → (∀ b, b < a → ¬ conflict b) →
      gsqWork l s = (becomes { g with
        state := .fault, step := none, timerStart := none, demands := 0, current := none, previous := none,
        feed := 0 }).raiseAll
        [{ kind := .seqFault, high := true, cycle := s.rgi.cycleNow, plant := s.rgi.plant, subject := l.number,
           detail := 256 + a.val }]) ∧
    (g.state = .pause ∨ g.state = .stepping → ¬ stops → (∀ a, ¬ conflict a) → feedStop →
      gsqWork l s = becomes { g with state := .held, demands := 0, current := none, previous := none, feed := 0 }) ∧
    (g.state = .held → ¬ stops → (∀ a, ¬ conflict a) →
      (¬ feedStop → s.rgi.ring = .synced →
        gsqWork l s = becomes { g with
          state := .pause, step := none, timerStart := none, demands := 0, pauseBase := some (s.rgi.runTime, .release) }) ∧
      (feedStop ∨ s.rgi.ring ≠ .synced → gsqWork l s = becomes g)) ∧
    (g.state = .stopped → gsqWork l s =
      if line = .waste then becomes { g with
        state := .pause, step := none, timerStart := none, demands := 0, pauseBase := some (s.rgi.runTime, .entry) }
      else becomes g) ∧
    (g.state = .fault → gsqWork l s = becomes g)) ∧
  (∀ (l : Line) (s : State), s.running = false → gsqWork l s = s) ∧
  ∀ (l : Line) (s : State), ownWork s l = true →
    let g := s.gsq.get l
    let record := (s.lsv.get l).pub
    let becomes (h : Gsq) : State := { s with gsq := s.gsq.set l { h with
      pub := { state := h.state, demands := h.demands, cycleCount := h.cycleCount, feed := h.feed } } }
    let due := (∃ ends, pauseEnd g record.strokes = some ends ∧ ends ≤ s.rgi.runTime) ∧ record.permission = true ∧
      1 ≤ record.strokes
    (g.state = .pause →
      (due → exec (.strokeCycleStart l) s = .next (gsqWork l s)) ∧ (¬ due → gsqWork l s = becomes g)) ∧
    (g.state = .stepping → g.step = none → gsqWork l s = becomes g) ∧
    ∀ (n : Nat) (e : StepEntry), g.state = .stepping → g.step = some (n, e) →
      let on := ∀ j < 8, e.outputs.getLsbD j = true → ∀ k : Fin 64,
        (s.tables.outputs.get k).source.toNat = 16 + 8 * l.offset + j →
          (s.otu.pub.get k).source = 10000 ∧ (s.otu.pub.get k).pending = false
      let timed (t : Nat) : Gsq := { g with timerStart := some t }
      let begun (t : Nat) : State := { s with gsq := s.gsq.set l (timed t) }
      (g.timerStart = none → ¬ on → gsqWork l s = becomes g) ∧
      ∀ t : Nat, (g.timerStart = none ∧ on ∧ t = s.rgi.runTime) ∨ g.timerStart = some t →
        let met := conditionMet s l e (s.rgi.runTime - t) = true
        let late := stepTimeoutOf e ≤ s.rgi.runTime - t
        (met → exec (.stepComplete l) (begun t) = .next (gsqWork l s)) ∧
        (¬ met → late → exec (.stepTimeout l) (begun t) = .next (gsqWork l s)) ∧
        (¬ met → ¬ late → gsqWork l s = becomes (timed t))

/-! ## Lines -/

/-- START, STOP and FEED_OFF move a line in RUN from the states R90 lists, with the cause of the command, a burnout start on
entry to BURNOUT alone, and a LINE_STATE event; in every other state and in CONFIG they are REFUSED_STATE and change nothing. For a
line other than 1 or 2 they are REFUSED_RANGE; the one byte of that reply stays open (log 5). -/
def Obligations.LineCommandsMoveTheLine : Prop :=
  (∀ (tag line : Byte) (s : State), line ≠ 1 → line ≠ 2 →
    ∀ c ∈ [Instr.lineCommandStart tag line, .lineCommandStop tag line, .lineCommandFeedOff tag line],
      ∃ byte, exec c s = .next (s.answered 12 tag .refusedRange [byte])) ∧
  ∀ (tag line : Byte) (l : Line) (s : State), line.toNat = l.number →
    let v := s.lsv.get l
    let moved (st : LineState) (c : LineCause) (burnout : Option Nat) : State :=
      (({ s with lsv := s.lsv.set l { v with state := st, cause := c, burnoutStart := burnout } } : State).raiseAll
        [{ kind := .lineState, high := false, cycle := s.rgi.cycleNow, plant := s.rgi.plant, subject := l.number,
           detail := 256 * st.code + c.code }]).answered 12 tag .done (nat8 st.code)
    let refused : State := s.answered 12 tag .refusedState (nat8 v.state.code)
    (s.running = true →
      (v.state = .off → exec (.lineCommandStart tag line) s = .next (moved .start .cmdStart none)) ∧
      (v.state ≠ .off → exec (.lineCommandStart tag line) s = .next refused) ∧
      (v.state = .start → exec (.lineCommandStop tag line) s = .next (moved .off .cmdStop none)) ∧
      (v.state ≠ .start → exec (.lineCommandStop tag line) s = .next refused) ∧
      (v.state = .waste ∨ v.state = .inhibit →
        exec (.lineCommandFeedOff tag line) s = .next (moved .burnout .cmdFeedOff (some s.rgi.runTime))) ∧
      (v.state ≠ .waste → v.state ≠ .inhibit → exec (.lineCommandFeedOff tag line) s = .next refused)) ∧
    (s.running = false →
      exec (.lineCommandStart tag line) s = .next refused ∧ exec (.lineCommandStop tag line) s = .next refused ∧
      exec (.lineCommandFeedOff tag line) s = .next refused ∧ exec (.lineCommandFeedOn tag line) s = .next refused ∧
      exec (.lineCommandReset tag line) s = .next refused)

/-- FEED_ON in START is NOT_READY with reason 1 while the last work's temperature is not qualified, and with reason 2 while it is and an
emission stop is set; else the line enters WASTE; in any other state it is REFUSED_STATE. RESET in TRIPPED takes the line to OFF
unless a published TRIPPED group has a line effect on it (an effect byte of 1 takes in line 1, of 2 line 2, of 3 both, of 0 neither;
one above 3 is taken as 3, log 8); in OFF it clears a set emission stop with the exceedance run and leaves
the line in OFF; in the other states it is REFUSED_STATE. For a line other than 1 or 2 both are REFUSED_RANGE; the one byte of that
reply stays open (log 5). That FEED_ON reads the emission stop as last published is the model's reading (log 12). -/
def Obligations.FeedOnAndResetByTheLineState : Prop :=
  (∀ b : Byte, (effectIncludes b .one = true ↔ b.toNat = 1 ∨ 3 ≤ b.toNat) ∧ (effectIncludes b .two = true ↔ 2 ≤ b.toNat)) ∧
  (∀ (tag line : Byte) (s : State), line ≠ 1 → line ≠ 2 →
    ∀ c ∈ [Instr.lineCommandFeedOn tag line, .lineCommandReset tag line],
      ∃ byte, exec c s = .next (s.answered 12 tag .refusedRange [byte])) ∧
  (∀ (tag line : Byte) (l : Line) (s : State), line.toNat = l.number → s.running = true →
     let v := s.lsv.get l
     (v.state ≠ .start →
       exec (.lineCommandFeedOn tag line) s = .next (s.answered 12 tag .refusedState (nat8 v.state.code))) ∧
     (v.state = .start → v.qualified = false →
       exec (.lineCommandFeedOn tag line) s = .next (s.answered 12 tag .notReady [1, 1])) ∧
     (v.state = .start → v.qualified = true → (s.eau.lines.get l).pub.stop = true →
       exec (.lineCommandFeedOn tag line) s = .next (s.answered 12 tag .notReady [1, 2])) ∧
     (v.state = .start → v.qualified = true → (s.eau.lines.get l).pub.stop = false →
       exec (.lineCommandFeedOn tag line) s =
         .next ((({ s with lsv := s.lsv.set l { v with state := .waste, cause := .cmdFeedOn, burnoutStart := none } } :
           State).raiseAll
           [{ kind := .lineState, high := false, cycle := s.rgi.cycleNow, plant := s.rgi.plant,
              subject := l.number, detail := 2 * 256 + 2 }]).answered 12 tag .done [2]))) ∧
  (∀ (tag line : Byte) (l : Line) (s : State), line.toNat = l.number → s.running = true →
     let v := s.lsv.get l
     let x := s.eau.lines.get l
     let tripped := ∃ g : Fin 8, s.otu.pubGroups.get g = true ∧ effectIncludes (s.tables.groups.get g).lineEffect l = true
     (v.state = .tripped → tripped →
       exec (.lineCommandReset tag line) s = .next (s.answered 12 tag .refusedState [5])) ∧
     (v.state = .tripped → ¬ tripped →
       exec (.lineCommandReset tag line) s =
         .next ((({ s with lsv := s.lsv.set l { v with state := .off, cause := .cmdReset, burnoutStart := none } } :
           State).raiseAll
           [{ kind := .lineState, high := false, cycle := s.rgi.cycleNow, plant := s.rgi.plant,
              subject := l.number, detail := 5 }]).answered 12 tag .done [0])) ∧
     (v.state = .off → x.stop = true →
       exec (.lineCommandReset tag line) s =
         .next ((({ s with eau := { s.eau with lines := s.eau.lines.set l { x with stop := false, run := 0 } } } :
           State).raiseAll
           [{ kind := .emissionStop, high := true, cycle := s.rgi.cycleNow, plant := s.rgi.plant,
              subject := l.number, detail := 0 }]).answered 12 tag .done [0])) ∧
     (v.state = .off → x.stop = false → exec (.lineCommandReset tag line) s = .next (s.answered 12 tag .done [0])) ∧
     (v.state = .start ∨ v.state = .waste ∨ v.state = .inhibit ∨ v.state = .burnout →
       exec (.lineCommandReset tag line) s = .next (s.answered 12 tag .refusedState (nat8 v.state.code))))

/-- The work of a line supervisor by the rows of R86: a published trip with a line effect takes a line to TRIPPED; else an emission
stop takes WASTE and INHIBIT to BURNOUT, a low temperature WASTE to INHIBIT, a temperature in the band for the qualification hold
INHIBIT back to WASTE with permission, and the end of the burnout time BURNOUT to START; else nothing. TEMP_QUALIFIED and
BURNOUT_END are two of these works, taken as commands by themselves, which is the model's choice (log 1). Every work then forms the
heating value, the firing demand, the available steam and the set points from the state it left, and publishes; the burner request
is on in START, INHIBIT and BURNOUT, and the line operates in WASTE and INHIBIT. A point is used when GOOD, CLAMPED or FORCED. In
CONFIG a work changes nothing. -/
def Obligations.LineWorkTransitions : Prop :=
  (∀ (l : Line) (s : State), s.running = true →
    let v := s.lsv.get l
    let c := s.tables.combustion.get l
    let p := s.point c.t2sPoint
    let w := lsvWork l s
    let moved (st : LineState) (cause : LineCause) (start : Option Nat) (u : State) : Prop :=
      (u.lsv.get l).state = st ∧ (u.lsv.get l).cause = cause ∧ (u.lsv.get l).burnoutStart = start ∧
      (u.lsv.get l).pub.state = st ∧ (u.lsv.get l).pub.cause = cause ∧
      u = ({ s with lsv := s.lsv.set l (u.lsv.get l) } : State).raiseAll
        [{ kind := .lineState, high := st == .tripped, cycle := s.rgi.cycleNow, plant := s.rgi.plant,
           subject := l.number, detail := 256 * st.code + cause.code }]
    let kept : Prop := (w.lsv.get l).state = v.state ∧ (w.lsv.get l).cause = v.cause ∧
      (w.lsv.get l).burnoutStart = v.burnoutStart ∧ w = { s with lsv := s.lsv.set l (w.lsv.get l) }
    let low := p.quality.usable = false ∨ p.value < tminOf c
    let stop := (s.eau.lines.get l).pub.stop
    let qualified := ∃ since, (w.lsv.get l).bandSince = some since ∧ qualHoldOf c ≤ s.rgi.runTime - since
    let ended := ∃ start, v.burnoutStart = some start ∧ burnoutTimeOf c * 1000 ≤ s.rgi.runTime - start
    ((w.lsv.get l).bandSince =
      if p.quality.usable = true ∧ tminOf c + hysteresisOf c ≤ p.value then some (v.bandSince.getD s.rgi.runTime) else none) ∧
    ((w.lsv.get l).qualified = true ↔ qualified) ∧
    (lineTripCause s l = true → v.state ≠ .tripped →
      moved .tripped .trip none w ∧ exec (.tempQualified l) s = .next s ∧ exec (.burnoutEnd l) s = .next s) ∧
    (lineTripCause s l = true → v.state = .tripped → kept) ∧
    (lineTripCause s l = false →
      (v.state = .waste ∨ v.state = .inhibit → stop = true → moved .burnout .emissionStop (some s.rgi.runTime) w) ∧
      (v.state = .waste → stop = false → (low → moved .inhibit .tempLow none w) ∧ (¬ low → kept)) ∧
      (v.state = .inhibit → stop = false →
        (qualified → exec (.tempQualified l) s = .next w ∧ moved .waste .tempQualified none w ∧
          (w.lsv.get l).pub.permission = true ∧ (w.lsv.get l).pub.burner = false ∧ (w.lsv.get l).pub.operating = true) ∧
        (¬ qualified → exec (.tempQualified l) s = .next s ∧ kept)) ∧
      (v.state = .burnout →
        (ended → exec (.burnoutEnd l) s = .next w ∧ moved .start .burnoutEnd none w ∧
          (w.lsv.get l).pub.permission = false ∧ (w.lsv.get l).pub.burner = true ∧ (w.lsv.get l).pub.operating = false) ∧
        (¬ ended → exec (.burnoutEnd l) s = .next s ∧ kept)) ∧
      (v.state = .off ∨ v.state = .start ∨ v.state = .tripped → kept))) ∧
  (∀ (l : Line) (s : State), s.running = false →
    lsvWork l s = s ∧ exec (.tempQualified l) s = .next s ∧ exec (.burnoutEnd l) s = .next s) ∧
  (∀ (l : Line) (s : State), lineTripCause s l = true ↔
    ∃ g : Fin 8, s.otu.pubGroups.get g = true ∧ effectIncludes (s.tables.groups.get g).lineEffect l = true) ∧
  (∀ q : Quality, q.usable = true ↔ q = .good ∨ q = .clamped ∨ q = .forced) ∧
  ∀ (l : Line) (s : State), s.running = true →
    let v := s.lsv.get l
    let c := s.tables.combustion.get l
    let steam := s.point c.steamPoint
    let g := (s.gsq.get l).pub
    let e := (s.eau.lines.get l).pub
    let y := (lsvWork l s).lsv.get l
    let r := y.pub
    let trim : Nat := match l with
      | .one => (s.lpe.loops.get 0).published.toNat
      | .two => (s.lpe.loops.get 1).published.toNat
    let sample := max 1000 (min 30000 (roundHalfUp (steam.value.toNat * heatGainOf c) (10 * g.feed)))
    let sampled := g.cycleCount ≠ v.lastCount ∧ y.state = .waste ∧ 1 ≤ g.feed ∧ steam.quality.usable = true
    let f1 := s.sdu.demand.get l * heatGainOf c / (10 * r.heating)
    let f2 := f1 * (5000 + trim) / 10000
    let f3 := if e.reduction then min f2 (designFeedOf c * (100 - e.percent) / 100) else f2
    y.lastCount = g.cycleCount ∧
    (sampled → y.samples = (v.samples ++ [sample]).drop (v.samples.length + 1 - 8)) ∧ (¬ sampled → y.samples = v.samples) ∧
    (y.samples = [] → r.heating = designHeatingOf c) ∧
    (y.samples ≠ [] → r.heating = roundHalfUp y.samples.sum y.samples.length) ∧
    (y.state = .waste → r.strokes = if massOf c = 0 then 0 else min 120 (roundHalfUp f3 (massOf c))) ∧
    (y.state ≠ .waste → r.strokes = 0 ∧ r.available = 0) ∧
    (y.state = .waste → r.available =
      if g.state = .fault then 0 else if e.reduction then maxSteamOf c * (100 - e.percent) / 100 else maxSteamOf c) ∧
    r.steamSetPoint = s.sdu.demand.get l ∧ r.o2SetPoint = o2SetPointOf c ∧
    (r.permission = true ↔ y.state = .waste ∧ e.stop = false) ∧
    (r.burner = true ↔ y.state = .start ∨ y.state = .inhibit ∨ y.state = .burnout) ∧
    (r.operating = true ↔ y.state = .waste ∨ y.state = .inhibit)

/-! ## Emissions -/

/-- MINUTE_CLOSE inside a half-hour: the open minute of each line closes by R111 into its slot, the next opens with empty
accumulators and no discard mark, and feed reduction (R122) is published; no record, latch, run or
stop changes. Over a forward jump every minute passed over is skipped: INVALID where the line operates, NOT_OPERATING else, and
TIME_JUMP is raised. In a work whose plant time steps backward the lines take nothing but its sample and TIME_JUMP is raised.
The first work in RUN opens the frame's minute on each line, its slots before that minute NOT_OPERATING, and raises nothing; a frame
of the open minute or an earlier one leaves both lines as they are, at a forward jump with TIME_JUMP.
MINUTE_CLOSE, HALFHOUR_CLOSE and DAY_CLOSE at a plant time are, in RUN and where it passes the end of such a period on some line, the
placing of that time and the publication, and else nothing; a frame's work places its time the same way (O44).
Feed reduction is evaluated at each of these closes. The line status of a slot is told by the operating counts of
component 0, which those of all components equal. Taken as a command by itself, which is the model's choice (log 1 and 14). -/
def Obligations.MinuteCloseStoresAndOpens : Prop :=
  (∀ (t : PlantTime) (m n last : Nat) (s : State), s.running = true → plantMinute t = m + 1 + n →
    (m + 1 + n) / 30 = m / 30 → s.eau.lastPlant = some last → last ≤ plantMs t →
    (∀ l : Line, (s.eau.lines.get l).openMinute = some m) →
    let skipped (l : Line) : MinuteSlot :=
      { notOperating := !(s.lsv.get l).pub.operating
        comps := Vector.replicate 6
          { status := if (s.lsv.get l).pub.operating then .invalid else .notOperating, average := 0 } }
    ∃ u, exec (.minuteClose t) s = .next u ∧
      u = { s with
        eau := u.eau,
        rgi := if last + 5000 < plantMs t then
            enqueue s.rgi { kind := .timeJump, high := false, cycle := s.rgi.cycleNow, plant := s.rgi.plant, subject := 0,
                            detail := 256 + min 255 ((plantMs t - last) / 60000) }
          else s.rgi } ∧
      u.eau.lastPlant = some (plantMs t) ∧
      ∀ l : Line,
        let x := s.eau.lines.get l
        let y := u.eau.lines.get l
        y = { x with
          openMinute := some (m + 1 + n), discard := false, acc := y.acc, slots := y.slots, reduction := y.reduction,
          pub := { reduction := y.reduction, percent := reductionOf (s.tables.emission.get l), stop := x.stop } } ∧
        (∀ k : Fin 6, y.acc.get k = { sum := 0, valid := 0, operating := 0, nonOperating := 0 }) ∧
        (∀ j : Fin 30, j.val < m % 30 ∨ m % 30 + n < j.val → y.slots.get j = x.slots.get j) ∧
        (∀ j : Fin 30, m % 30 < j.val → j.val ≤ m % 30 + n →
          y.slots.get j = some (skipped l)) ∧
        ∃ slot : MinuteSlot, slot = closedSlot x ∧
          (∀ j : Fin 30, j.val = m % 30 → y.slots.get j = some slot) ∧
          y.reduction = ((List.range n).foldl
              (fun z j => closeMinute (s.tables.emission.get l) (m + 1 + j) (skipped l) z)
              (closeMinute (s.tables.emission.get l) m slot x)).reduction ∧
          (slot.notOperating = true ↔
            x.discard = false ∧ (x.acc.get 0).operating < (x.acc.get 0).nonOperating) ∧
          ∀ k : Fin 6,
            let a := x.acc.get k
            slot.comps.get k =
              if x.discard = true then { status := .invalid, average := 0 }
              else if a.operating < a.nonOperating then { status := .notOperating, average := 0 }
              else if a.operating * 2 ≤ a.valid * 3 ∧ 1 ≤ a.valid then
                { status := .valid, average := (2 * a.sum + a.valid) / (2 * a.valid) }
              else { status := .invalid, average := 0 }) ∧
  (∀ (last : Nat) (s : State), s.running = true → s.eau.lastPlant = some last → plantMs s.rgi.plant < last →
    (∀ l : Line, ∃ m, (s.eau.lines.get l).openMinute = some m ∧ plantMinute s.rgi.plant ≤ m) →
    let u := eauWork s
    u = { s with
      eau := u.eau,
      rgi := enqueue s.rgi { kind := .timeJump, high := false, cycle := s.rgi.cycleNow, plant := s.rgi.plant, subject := 0,
                             detail := 512 + min 255 ((last - plantMs s.rgi.plant) / 60000) } } ∧
    u.eau.lastPlant = some (plantMs s.rgi.plant) ∧
    ∀ l : Line,
      u.eau.lines.get l = { s.eau.lines.get l with
        inst := (u.eau.lines.get l).inst, acc := (u.eau.lines.get l).acc, pub := (u.eau.lines.get l).pub }) ∧
  (∀ (t : PlantTime) (s : State),
    let now := plantMinute t
    let u := placeFrame t s
    u = { s with eau := u.eau, rgi := u.rgi } ∧ u.eau.lastPlant = some (plantMs t) ∧
    (s.eau.lastPlant = none → (∀ l : Line, (s.eau.lines.get l).openMinute = none) → u.rgi = s.rgi) ∧
    (∀ last, s.eau.lastPlant = some last → last ≤ plantMs t →
      (∀ l : Line, ∃ m, (s.eau.lines.get l).openMinute = some m ∧ now ≤ m) →
      u.rgi = if last + 5000 < plantMs t then
          enqueue s.rgi { kind := .timeJump, high := false, cycle := s.rgi.cycleNow, plant := s.rgi.plant, subject := 0,
                          detail := 256 + min 255 ((plantMs t - last) / 60000) }
        else s.rgi) ∧
    ∀ l : Line,
      let x := s.eau.lines.get l
      let y := u.eau.lines.get l
      (x.openMinute = none →
        y = { x with openMinute := some now, discard := false, acc := y.acc, slots := y.slots } ∧
        (∀ k : Fin 6, y.acc.get k = { sum := 0, valid := 0, operating := 0, nonOperating := 0 }) ∧
        ∀ j : Fin 30, y.slots.get j =
          if j.val < now % 30 then
            some { notOperating := true, comps := Vector.replicate 6 { status := .notOperating, average := 0 } }
          else none) ∧
      (∀ m, x.openMinute = some m → now ≤ m → y = x)) ∧
  (∀ (t : PlantTime) (s : State),
    let passes (period : Nat) : Prop := s.running = true ∧
      ∃ (l : Line) (m : Nat), (s.eau.lines.get l).openMinute = some m ∧ m / period < plantMinute t / period
    let closed : State := publishEmissions (placeFrame t s)
    (passes 1 → exec (.minuteClose t) s = .next closed) ∧ (¬ passes 1 → exec (.minuteClose t) s = .next s) ∧
    (passes 30 → exec (.halfhourClose t) s = .next closed) ∧ (¬ passes 30 → exec (.halfhourClose t) s = .next s) ∧
    (passes 1440 → exec (.dayClose t) s = .next closed) ∧ (¬ passes 1440 → exec (.dayClose t) s = .next s)) ∧
  ∀ s : State,
    let u := publishEmissions s
    u = { s with eau := u.eau } ∧ u.eau.lastPlant = s.eau.lastPlant ∧
    ∀ l : Line,
      let x := s.eau.lines.get l
      u.eau.lines.get l = { x with
        pub := { reduction := x.reduction, percent := reductionOf (s.tables.emission.get l), stop := x.stop } }

/-- Feed reduction after a minute close: with no running mean it stays; CLEAR becomes ACTIVE when a running mean stands at or above
the action level, ACTIVE becomes CLEAR when every one stands at or below the release level, and else it stays. The levels are taken
in 0 to 200 %, which for bytes above 200 is the model's choice (log 56). -/
def Obligations.FeedReductionFollowsTheRunningMeans : Prop :=
  ∀ (e : EmissionEntry) (minute : Nat) (slot : MinuteSlot) (x : EauLine) (h : HalfLatch), x.latch = some h →
    let y := closeMinute e minute slot x
    let vs (k : Fin 6) : List Nat := (y.slots.toList.filterMap fun o => o.bind fun m =>
      if (m.comps.get k).status = .valid then some (m.comps.get k).average else none)
    let mean (k : Fin 6) : Nat :=
      roundHalfUp (roundHalfUp (vs k).sum (vs k).length * (100 - (h.comps.get k).uncertainty)) 100
    y = { x with slots := y.slots, reduction := y.reduction } ∧
      ((∀ k, vs k = []) → y.reduction = x.reduction) ∧
      ((∃ k, vs k ≠ []) → x.reduction = false →
        (y.reduction = true ↔ ∃ k, vs k ≠ [] ∧ (h.comps.get k).limit * actionOf e ≤ mean k * 100)) ∧
      ((∃ k, vs k ≠ []) → x.reduction = true →
        (y.reduction = false ↔ ∀ k, vs k ≠ [] → mean k * 100 ≤ (h.comps.get k).limit * releaseOf e))

/-- The result of a component at a half-hour close by the three rows of R116, the exceed mark, and the operating minute count; in
every record validated ≤ average. -/
def Obligations.HalfhourResultByItsSlots : Prop :=
  ∀ (x : EauLine) (minute : Nat) (h : HalfLatch) (k : Fin 6), x.latch = some h →
    let r := halfRecordOf x minute
    let c := r.comps.get k
    let p := h.comps.get k
    let st (j : Fin 30) : Option AvgStatus := (x.slots.get j).map fun m => (m.comps.get k).status
    let vs : List Nat := x.slots.toList.filterMap fun o => o.bind fun m =>
      if (m.comps.get k).status = .valid then some (m.comps.get k).average else none
    r.day = minute / 1440 ∧ r.index = minute % 1440 / 30 ∧
      r.operatingMinutes = (x.slots.toList.filter fun o => o.any fun m => !m.notOperating).length ∧
      c.limit = p.limit ∧ (c.exceed = true ↔ c.status = .valid ∧ p.limit < c.validated) ∧ c.validated ≤ c.average ∧
      ((∀ j, st j = none ∨ st j = some .notOperating) → c.status = .notOperating ∧ c.average = 0 ∧ c.validated = 0) ∧
      ((∃ j, st j = some .valid ∨ st j = some .invalid) → p.minValid ≤ vs.length →
        c.status = .valid ∧ c.average = roundHalfUp vs.sum vs.length ∧
          c.validated = roundHalfUp (c.average * (100 - p.uncertainty)) 100) ∧
      ((∃ j, st j = some .valid ∨ st j = some .invalid) → vs.length < p.minValid →
        c.status = .invalid ∧ c.average = 0 ∧ c.validated = 0)

/-- HALFHOUR_CLOSE at a half-hour boundary inside a day: each line's half-hour closes with all its slots into a record at the newest
end of its ring, the oldest leaving a full one; the result enters the day accumulator; the run, the stop and the events are those of
the record; the next half-hour opens empty with the latch of the active bank. The events are HALFHOUR_CLOSED with the half-hour index
and the set of components with exceed, EMISSION_EXCEED for each of these with its T9 index and validated value, and EMISSION_STOP
where the stop changes. Of a component a VALID result adds its validated value and one to the valid count, one not NOT_OPERATING one
to the count, and one NOT_OPERATING nothing. Over a forward jump inside a day the open half-hour
closes with its later minutes skipped, each half-hour passed over is recorded with every component INVALID or NOT_OPERATING and the
limits of the active bank, and raises nothing, and the half-hour landed in holds its skipped minutes. The feed reduction is that of
the minute closes of the open half-hour, since the later ones hold no VALID slot.
Taken as a command by itself, which is the model's choice (log 1 and 14); that line 1's events stand before line 2's, TIME_JUMP
before both and EMISSION_STOP last of a close is its reading (log 10), and so is the stop at a half-hour NOT_OPERATING as a whole
(log 34). -/
def Obligations.HalfhourCloseRecordsAndLatches : Prop :=
  (∀ (t : PlantTime) (m last : Nat) (s : State), s.running = true → plantMinute t = m + 1 → (m + 1) % 30 = 0 →
    (m + 1) % 1440 ≠ 0 → s.eau.lastPlant = some last → last ≤ plantMs t → plantMs t ≤ last + 5000 →
    (∀ l : Line, (s.eau.lines.get l).openMinute = some m ∧ (s.eau.lines.get l).halves.length ≤ 96) →
    let closed (l : Line) : EauLine :=
      closeMinute (s.tables.emission.get l) m (closedSlot (s.eau.lines.get l)) (s.eau.lines.get l)
    let record (l : Line) : HalfRecord := halfRecordOf (closed l) m
    let run (l : Line) : Nat := runAfter (record l) (s.eau.lines.get l).run
    let stop (l : Line) : Bool :=
      stopAfter (nStopOf (s.tables.emission.get l)) (record l) (run l) (s.eau.lines.get l).stop
    ∃ u, exec (.halfhourClose t) s = .next u ∧
      u = { s with
        eau := u.eau,
        rgi := (halfEvents s .one (record .one) false s.eau.lines.one.stop (stop .one) ++
          halfEvents s .two (record .two) false s.eau.lines.two.stop (stop .two)).foldl enqueue s.rgi } ∧
      u.eau.lastPlant = some (plantMs t) ∧
      ∀ l : Line,
        let x := s.eau.lines.get l
        let y := u.eau.lines.get l
        y = { closed l with
          openMinute := some (m + 1), discard := false, acc := y.acc, slots := y.slots, latch := y.latch, halves := y.halves,
          dayAcc := y.dayAcc, run := run l, stop := stop l,
          pub := { reduction := (closed l).reduction, percent := reductionOf (s.tables.emission.get l), stop := stop l } } ∧
        y.halves = (if x.halves.length < 96 then x.halves else x.halves.tail) ++ [record l] ∧
        y.latch = some (halfLatchOf s.tables l) ∧ (∀ j : Fin 30, y.slots.get j = none) ∧
        (∀ k : Fin 6, y.acc.get k = { sum := 0, valid := 0, operating := 0, nonOperating := 0 } ∧
          y.dayAcc.get k = dayAccAfter ((record l).comps.get k) (x.dayAcc.get k))) ∧
  (∀ (t : PlantTime) (first last : Nat) (s : State), s.running = true → first / 30 < plantMinute t / 30 →
    first / 1440 = plantMinute t / 1440 → s.eau.lastPlant = some last → last ≤ plantMs t →
    (∀ l : Line, (s.eau.lines.get l).openMinute = some first ∧ (s.eau.lines.get l).halves.length ≤ 96) →
    let now := plantMinute t
    let passed := now / 30 - first / 30 - 1
    let operates (l : Line) : Bool := (s.lsv.get l).pub.operating
    let skipped (l : Line) : MinuteSlot :=
      { notOperating := !operates l
        comps := Vector.replicate 6 { status := if operates l then .invalid else .notOperating, average := 0 } }
    let filled (l : Line) : EauLine :=
      let x := s.eau.lines.get l
      { x with slots := Vector.ofFn fun j : Fin 30 =>
          if j.val < first % 30 then x.slots.get j
          else if j.val = first % 30 then some (closedSlot x) else some (skipped l) }
    let reduced (l : Line) : Bool :=
      ((List.range (29 - first % 30)).foldl
        (fun z j => closeMinute (s.tables.emission.get l) (first + 1 + j) (skipped l) z)
        (closeMinute (s.tables.emission.get l) first (closedSlot (s.eau.lines.get l)) (s.eau.lines.get l))).reduction
    let record (l : Line) : HalfRecord := halfRecordOf (filled l) first
    let run (l : Line) : Nat := runAfter (record l) (s.eau.lines.get l).run
    let stop (l : Line) : Bool :=
      stopAfter (nStopOf (s.tables.emission.get l)) (record l) (run l) (s.eau.lines.get l).stop
    ∃ u, exec (.halfhourClose t) s = .next u ∧
      u = { s with
        eau := u.eau,
        rgi := ((if last + 5000 < plantMs t then
              [({ kind := .timeJump, high := false, cycle := s.rgi.cycleNow, plant := s.rgi.plant, subject := 0,
                  detail := 256 + min 255 ((plantMs t - last) / 60000) } : Event)]
            else []) ++
          halfEvents s .one (record .one) false s.eau.lines.one.stop (stop .one) ++
          halfEvents s .two (record .two) false s.eau.lines.two.stop (stop .two)).foldl enqueue s.rgi } ∧
      u.eau.lastPlant = some (plantMs t) ∧
      ∀ l : Line,
        let x := s.eau.lines.get l
        let y := u.eau.lines.get l
        y = { x with
          openMinute := some now, discard := false, acc := accEmpty, slots := y.slots, latch := some (halfLatchOf s.tables l),
          halves := y.halves, dayAcc := y.dayAcc, run := if passed = 0 ∨ operates l = false then run l else 0,
          stop := stop l, reduction := reduced l,
          pub := { reduction := reduced l, percent := reductionOf (s.tables.emission.get l), stop := stop l } } ∧
        (∀ j : Fin 30, y.slots.get j = if j.val < now % 30 then some (skipped l) else none) ∧
        (∀ k : Fin 6,
          let a := dayAccAfter ((record l).comps.get k) (x.dayAcc.get k)
          y.dayAcc.get k = { a with counted := a.counted + if operates l then passed else 0 }) ∧
        ∃ past : List HalfRecord, past.length = passed ∧
          y.halves = (x.halves ++ record l :: past).drop (x.halves.length + 1 + passed - 96) ∧
          ∀ (j : Nat) (r : HalfRecord), past[j]? = some r →
            r.day = first / 1440 ∧ r.index = first % 1440 / 30 + 1 + j ∧ r.operatingMinutes = (if operates l then 30 else 0) ∧
            ∀ k : Fin 6, r.comps.get k =
              { status := if operates l then .invalid else .notOperating, average := 0, validated := 0, exceed := false,
                limit := (componentEntry s.tables l k).limit.toNat }) ∧
  (∀ (s : State) (l : Line) (r : HalfRecord) (before after : Bool),
    let event (kind : EventKind) (high : Bool) (subject detail : Nat) : Event :=
      { kind := kind, high := high, cycle := s.rgi.cycleNow, plant := s.rgi.plant, subject := subject, detail := detail }
    let bit (k : Fin 6) (n : Nat) : Nat := if (r.comps.get k).exceed then n else 0
    halfEvents s l r false before after =
      event .halfhourClosed false l.number (256 * r.index + (bit 0 1 + bit 1 2 + bit 2 4 + bit 3 8 + bit 4 16 + bit 5 32)) ::
        (([0, 1, 2, 3, 4, 5] : List (Fin 6)).filterMap fun k =>
          if (r.comps.get k).exceed then
            some (event .emissionExceed false (6 * l.offset + k.val) (r.comps.get k).validated)
          else none) ++
        (if before = after then [] else [event .emissionStop true l.number (if after then 1 else 0)])) ∧
  (∀ (c : HalfComp) (a : DayAcc),
    (c.status = .notOperating → dayAccAfter c a = a) ∧
    (c.status = .valid →
      dayAccAfter c a = { sum := a.sum + c.validated, valid := a.valid + 1, counted := a.counted + 1 }) ∧
    (c.status = .invalid → dayAccAfter c a = { sum := a.sum, valid := a.valid, counted := a.counted + 1 })) ∧
  ∀ (b : Bank) (l : Line),
    (halfLatchOf b l).o2Ref = o2RefOf (b.emission.get l) ∧ (halfLatchOf b l).o2Ceil = o2CeilOf (b.emission.get l) ∧
    ∀ k : Fin 6,
      let e := componentEntry b l k
      (halfLatchOf b l).comps.get k =
          { limit := e.limit.toNat, minValid := max 1 (min 30 e.minValid.toNat), uncertainty := min 40 e.uncertainty.toNat } ∧
        (dayLatchOf b l).get k = { limit := e.dailyLimit.toNat, dayMin := max 1 (min 48 e.dayMin.toNat) }

/-- The exceedance run at each half-hour close, those passed over by a jump among them; and the emission stop at a close not passed
over: set with an exceed that brings the run to N_stop or more, cleared by a record with a VALID component and no exceed, kept else,
each change raising EMISSION_STOP with HIGH priority.
That a half-hour NOT_OPERATING as a whole sets no stop is the model's reading (log 34), and so is that EMISSION_STOP is the last
event of the close (log 10). -/
def Obligations.ExceedanceRunAndStopAtAHalfhourClose : Prop :=
  (∀ (s : State) (l : Line) (minute : Nat) (passedOver : Bool) (p : Placing),
     let r := halfRecordOf p.line minute
     let run := (closeHalfHour s l minute passedOver p).line.run
     run = runAfter r p.line.run ∧
     ((∃ k : Fin 6, (r.comps.get k).exceed = true) → run = min 255 (p.line.run + 1)) ∧
     ((∀ k : Fin 6, (r.comps.get k).status = .notOperating) → run = p.line.run) ∧
     ((∀ k : Fin 6, (r.comps.get k).exceed = false) → (∃ k : Fin 6, (r.comps.get k).status ≠ .notOperating) → run = 0)) ∧
  (∀ (s : State) (l : Line) (minute : Nat) (p : Placing),
     let r := halfRecordOf p.line minute
     let c := closeHalfHour s l minute false p
     let exceed := ∃ k : Fin 6, (r.comps.get k).exceed = true
     c.line.stop = stopAfter (nStopOf (s.tables.emission.get l)) r c.line.run p.line.stop ∧
     (exceed → c.line.stop = (p.line.stop || decide (nStopOf (s.tables.emission.get l) ≤ c.line.run))) ∧
     (¬ exceed → (∃ k : Fin 6, (r.comps.get k).status = .valid) → c.line.stop = false) ∧
     (¬ exceed → (∀ k : Fin 6, (r.comps.get k).status ≠ .valid) → c.line.stop = p.line.stop) ∧
     (c.line.stop ≠ p.line.stop → c.events.getLast? =
       some { kind := .emissionStop, high := true, cycle := s.rgi.cycleNow, plant := s.rgi.plant, subject := l.number,
              detail := if c.line.stop then 1 else 0 }))

/-- DAY_CLOSE at the last minute of a day: half-hour 47 closes first, with its events, then each line's day closes by R125 into its day
ring, with a DAY_CLOSED event; the new day opens with the day latch of the active bank and an empty day accumulator, and its first
half-hour and minute empty, with the half-hour latch of the active bank and no discard mark. The run and the stop are those of half-hour
47's record, the feed reduction that of its last minute close, and they are published. Over a forward
jump into a later day the open half-hour and the open day close so; of the half-hours passed over the first 96 are recorded and of
the days passed over the first 7, INVALID or NOT_OPERATING throughout and with the limits of the active bank, and none of them
raises an event; where the line operates, a half-hour passed over sets the run to 0. The half-hour landed in holds its skipped minutes.
Taken as a command by itself, which is the model's choice (log 1 and 14); that line 1's events stand before line 2's and TIME_JUMP
before both is its reading (log 10), and so is the stop at a half-hour NOT_OPERATING as a whole (log 34). -/
def Obligations.DayCloseRecordsTheDay : Prop :=
  (∀ (t : PlantTime) (m last : Nat) (s : State), s.running = true → plantMinute t = m + 1 → (m + 1) % 1440 = 0 →
    s.eau.lastPlant = some last → last ≤ plantMs t → plantMs t ≤ last + 5000 →
    (∀ l : Line, (s.eau.lines.get l).openMinute = some m ∧ (s.eau.lines.get l).halves.length ≤ 96 ∧
      (s.eau.lines.get l).days.length ≤ 7) →
    let closed (l : Line) : EauLine :=
      closeMinute (s.tables.emission.get l) m (closedSlot (s.eau.lines.get l)) (s.eau.lines.get l)
    let record (l : Line) : HalfRecord := halfRecordOf (closed l) m
    let run (l : Line) : Nat := runAfter (record l) (s.eau.lines.get l).run
    let stop (l : Line) : Bool :=
      stopAfter (nStopOf (s.tables.emission.get l)) (record l) (run l) (s.eau.lines.get l).stop
    let events (l : Line) : List Event :=
      halfEvents s l (record l) false (s.eau.lines.get l).stop (stop l) ++
      [{ kind := .dayClosed, high := false, cycle := s.rgi.cycleNow, plant := s.rgi.plant, subject := l.number,
         detail := m / 1440 }]
    ∃ u, exec (.dayClose t) s = .next u ∧
      u = { s with eau := u.eau, rgi := (events .one ++ events .two).foldl enqueue s.rgi } ∧
      u.eau.lastPlant = some (plantMs t) ∧
      ∀ l : Line,
        let x := s.eau.lines.get l
        let y := u.eau.lines.get l
        y = { closed l with
          openMinute := some (m + 1), discard := false, acc := y.acc, slots := y.slots,
          latch := some (halfLatchOf s.tables l), dayLatch := some (dayLatchOf s.tables l), halves := y.halves, days := y.days,
          dayAcc := y.dayAcc, run := run l, stop := stop l,
          pub := { reduction := (closed l).reduction, percent := reductionOf (s.tables.emission.get l), stop := stop l } } ∧
        (∀ j : Fin 30, y.slots.get j = none) ∧
        y.halves = (if x.halves.length < 96 then x.halves else x.halves.tail) ++ [record l] ∧ (record l).index = 47 ∧
        (∀ k : Fin 6, y.acc.get k = { sum := 0, valid := 0, operating := 0, nonOperating := 0 } ∧
          y.dayAcc.get k = { sum := 0, valid := 0, counted := 0 }) ∧
        ∃ d : DayRecord, y.days = (if x.days.length < 7 then x.days else x.days.tail) ++ [d] ∧ d.day = m / 1440 ∧
          ∀ (k : Fin 6) (h : Vector DayCompLatch 6), x.dayLatch = some h →
            let a := dayAccAfter ((record l).comps.get k) (x.dayAcc.get k)
            let c := d.comps.get k
            c.limit = (h.get k).limit ∧ c.validCount = a.valid ∧
              (a.counted = 0 → c.status = .notOperating ∧ c.mean = 0 ∧ c.exceed = false) ∧
              (a.counted ≠ 0 → (h.get k).dayMin ≤ a.valid →
                c.status = .valid ∧ c.mean = roundHalfUp a.sum a.valid ∧ c.exceed = decide ((h.get k).limit < c.mean)) ∧
              (a.counted ≠ 0 → a.valid < (h.get k).dayMin → c.status = .invalid ∧ c.mean = 0 ∧ c.exceed = false)) ∧
  ∀ (t : PlantTime) (first last : Nat) (s : State), s.running = true → first / 1440 < plantMinute t / 1440 →
    s.eau.lastPlant = some last → last ≤ plantMs t →
    (∀ l : Line, (s.eau.lines.get l).openMinute = some first ∧ (s.eau.lines.get l).halves.length ≤ 96 ∧
      (s.eau.lines.get l).days.length ≤ 7) →
    let now := plantMinute t
    let passed := min 96 (now / 30 - first / 30 - 1)
    let passedDays := min 7 (now / 1440 - first / 1440 - 1)
    let operates (l : Line) : Bool := (s.lsv.get l).pub.operating
    let none' (l : Line) : AvgStatus := if operates l then .invalid else .notOperating
    let skipped (l : Line) : MinuteSlot :=
      { notOperating := !operates l, comps := Vector.replicate 6 { status := none' l, average := 0 } }
    let filled (l : Line) : EauLine :=
      let x := s.eau.lines.get l
      { x with slots := Vector.ofFn fun j : Fin 30 =>
          if j.val < first % 30 then x.slots.get j
          else if j.val = first % 30 then some (closedSlot x) else some (skipped l) }
    let reduced (l : Line) : Bool :=
      ((List.range (29 - first % 30)).foldl
        (fun z j => closeMinute (s.tables.emission.get l) (first + 1 + j) (skipped l) z)
        (closeMinute (s.tables.emission.get l) first (closedSlot (s.eau.lines.get l)) (s.eau.lines.get l))).reduction
    let record (l : Line) : HalfRecord := halfRecordOf (filled l) first
    let run (l : Line) : Nat := runAfter (record l) (s.eau.lines.get l).run
    let stop (l : Line) : Bool :=
      stopAfter (nStopOf (s.tables.emission.get l)) (record l) (run l) (s.eau.lines.get l).stop
    let events (l : Line) : List Event :=
      halfEvents s l (record l) false (s.eau.lines.get l).stop (stop l) ++
      [{ kind := .dayClosed, high := false, cycle := s.rgi.cycleNow, plant := s.rgi.plant, subject := l.number,
         detail := first / 1440 }]
    ∃ u, exec (.dayClose t) s = .next u ∧
      u = { s with
        eau := u.eau,
        rgi := ((if last + 5000 < plantMs t then
              [({ kind := .timeJump, high := false, cycle := s.rgi.cycleNow, plant := s.rgi.plant, subject := 0,
                  detail := 256 + min 255 ((plantMs t - last) / 60000) } : Event)]
            else []) ++ events .one ++ events .two).foldl enqueue s.rgi } ∧
      u.eau.lastPlant = some (plantMs t) ∧
      ∀ l : Line,
        let x := s.eau.lines.get l
        let y := u.eau.lines.get l
        y = { x with
          openMinute := some now, discard := false, acc := accEmpty, slots := y.slots, latch := some (halfLatchOf s.tables l),
          dayLatch := some (dayLatchOf s.tables l), halves := y.halves, days := y.days, dayAcc := y.dayAcc,
          run := if passed = 0 ∨ operates l = false then run l else 0, stop := stop l, reduction := reduced l,
          pub := { reduction := reduced l, percent := reductionOf (s.tables.emission.get l), stop := stop l } } ∧
        (∀ j : Fin 30, y.slots.get j = if j.val < now % 30 then some (skipped l) else none) ∧
        (∀ k : Fin 6, y.dayAcc.get k =
          { sum := 0, valid := 0, counted := if operates l then now % 1440 / 30 else 0 }) ∧
        (∃ past : List HalfRecord, past.length = passed ∧
          y.halves = (x.halves ++ record l :: past).drop (x.halves.length + 1 + passed - 96) ∧
          ∀ (j : Nat) (r : HalfRecord), past[j]? = some r →
            periodOf r = first / 30 + 1 + j ∧ r.index ≤ 47 ∧ r.operatingMinutes = (if operates l then 30 else 0) ∧
            ∀ k : Fin 6, r.comps.get k =
              { status := none' l, average := 0, validated := 0, exceed := false,
                limit := (componentEntry s.tables l k).limit.toNat }) ∧
        ∃ (d : DayRecord) (past : List DayRecord), past.length = passedDays ∧
          y.days = (x.days ++ d :: past).drop (x.days.length + 1 + passedDays - 7) ∧ d.day = first / 1440 ∧
          (∀ (j : Nat) (r : DayRecord), past[j]? = some r → r.day = first / 1440 + 1 + j ∧
            ∀ k : Fin 6, r.comps.get k =
              { status := none' l, mean := 0, exceed := false, limit := (componentEntry s.tables l k).dailyLimit.toNat,
                validCount := 0 }) ∧
          ∀ (k : Fin 6) (h : Vector DayCompLatch 6), x.dayLatch = some h →
            let b := dayAccAfter ((record l).comps.get k) (x.dayAcc.get k)
            let counted := b.counted + if operates l then 47 - first % 1440 / 30 else 0
            let c := d.comps.get k
            c.limit = (h.get k).limit ∧ c.validCount = b.valid ∧
              (counted = 0 → c.status = .notOperating ∧ c.mean = 0 ∧ c.exceed = false) ∧
              (counted ≠ 0 → (h.get k).dayMin ≤ b.valid →
                c.status = .valid ∧ c.mean = roundHalfUp b.sum b.valid ∧ c.exceed = decide ((h.get k).limit < c.mean)) ∧
              (counted ≠ 0 → b.valid < (h.get k).dayMin → c.status = .invalid ∧ c.mean = 0 ∧ c.exceed = false)

/-- RECORD_READ, DAY_READ and RING_INFO refuse a line other than 1 or 2, an index above 47 and a period or day not held, and else
answer DONE with the record held, or with the counts and ends of the two rings. They change nothing. The order of the items of a
day record in its reply is the model's choice (log 13). -/
def Obligations.EmissionRecordsAreRead : Prop :=
  ∀ (tag line index : Byte) (day : Half) (s : State),
    (line ≠ 1 → line ≠ 2 →
      exec (.recordRead tag line day index) s = .next (s.answered 17 tag .refusedRange []) ∧
      exec (.dayRead tag line day) s = .next (s.answered 18 tag .refusedRange []) ∧
      exec (.ringInfo tag line) s = .next (s.answered 19 tag .refusedRange [])) ∧
    ∀ l : Line, line.toNat = l.number →
      let x := s.eau.lines.get l
      (47 < index.toNat ∨ (∀ r ∈ x.halves, ¬ (r.day = day.toNat ∧ r.index = index.toNat)) →
        exec (.recordRead tag line day index) s = .next (s.answered 17 tag .refusedRange [])) ∧
      (∀ before r after, x.halves = before ++ r :: after → index.toNat ≤ 47 → r.day = day.toNat → r.index = index.toNat →
        (∀ q ∈ before, ¬ (q.day = day.toNat ∧ q.index = index.toNat)) →
        exec (.recordRead tag line day index) s =
          .next (s.answered 17 tag .done (nat8 l.number ++ nat16 r.day ++ nat8 r.index ++ nat8 r.operatingMinutes ++
            r.comps.toList.flatMap fun c =>
              nat8 c.status.code ++ flag8 c.exceed ++ nat16 c.average ++ nat16 c.validated ++ nat16 c.limit))) ∧
      ((∀ r ∈ x.days, r.day ≠ day.toNat) →
        exec (.dayRead tag line day) s = .next (s.answered 18 tag .refusedRange [])) ∧
      (∀ before r after, x.days = before ++ r :: after → r.day = day.toNat → (∀ q ∈ before, q.day ≠ day.toNat) →
        exec (.dayRead tag line day) s =
          .next (s.answered 18 tag .done (nat8 l.number ++ nat16 r.day ++
            r.comps.toList.flatMap fun c =>
              nat8 c.status.code ++ nat16 c.mean ++ flag8 c.exceed ++ nat16 c.limit ++ nat8 c.validCount))) ∧
      (∃ ends dayEnds,
        exec (.ringInfo tag line) s =
          .next (s.answered 19 tag .done (nat8 x.halves.length ++ ends ++ nat8 x.days.length ++ dayEnds)) ∧
        (x.halves = [] → ends = [0, 0, 0, 0, 0, 0]) ∧
        (∀ a b, x.halves.head? = some a → x.halves.getLast? = some b →
          ends = nat16 a.day ++ nat8 a.index ++ nat16 b.day ++ nat8 b.index) ∧
        (x.days = [] → dayEnds = [0, 0, 0, 0]) ∧
        (∀ a b, x.days.head? = some a → x.days.getLast? = some b → dayEnds = nat16 a.day ++ nat16 b.day))

/-! ## Dosing -/

/-- DOSING_LIMIT for a record at maximum and not reported, whose time at maximum reaches the dosing limit time: one event, and the
record is reported. The carbon demand is the one last formed. A record not at maximum, already reported or too young changes
nothing.
Taken as a command by itself, which is the model's choice (log 1), and so is that a start is kept over a swap that lowers the out max
of a loop already at its former one (log 55). -/
def Obligations.DosingLimitIsReportedOnce : Prop :=
  ∀ (l : Line) (r : Reagent) (s : State),
    let x := s.rdu.lines.get l
    let e := (s.tables.loops.get (dosingLoop l r))
    let atMax : Prop := (s.lsv.get l).pub.operating = true ∧
      (match r with
        | .carbon => x.carbon = 10000
        | .urea | .lime => yes e.inService = true ∧ outMaxOf e ≤ (s.lpe.loops.get (dosingLoop l r)).published)
    let since := (x.limit r).since.getD s.rgi.runTime
    let due := limitTimeOf s.tables.dosing * 1000 ≤ s.rgi.runTime - since
    (s.running = true → atMax → (x.limit r).reported = false → due →
      exec (.dosingLimit l r) s =
        .next (({ s with rdu := { lines := s.rdu.lines.set l (x.setLimit r { since := some since, reported := true }) } } :
          State).raiseAll
          [{ kind := .dosingLimit, high := false, cycle := s.rgi.cycleNow, plant := s.rgi.plant,
             subject := l.number,
             detail := match r with
               | .urea => 256 + (5 + l.number)
               | .lime => 2 * 256 + (7 + l.number)
               | .carbon => 3 * 256 }])) ∧
    (s.running = false ∨ ¬ atMax ∨ (x.limit r).reported = true ∨ ¬ due → exec (.dosingLimit l r) s = .next s)

/-- After a work in RUN each line's set points, terms and carbon demand are those of R133 to R136, from the image, the latched O2
reference and ceiling and the published SO2; what is held is held from the work before. Each limit record at maximum keeps or takes
its start and is reported once, when its time at maximum reaches the dosing limit time; one not at maximum is re-armed. The
reports are the only events, in the order of lines and reagents, which is the model's reading (log 10). In CONFIG a work changes
nothing. That a start is kept over a swap that lowers the out max of a loop already at its former one is the model's choice (log 55). -/
def Obligations.DosingWorkFormsSetPointsAndTerms : Prop :=
  (∀ (l : Line) (s : State) (h : HalfLatch), s.running = true → (s.eau.lines.get l).latch = some h →
    let x := s.rdu.lines.get l
    let y := (rduWork s).rdu.lines.get l
    let d := s.tables.dosing.lines.get l
    let steam := s.point (s.tables.combustion.get l).steamPoint
    let flow := s.point d.flowPoint
    let water (k : Fin 6) : Nat := if yes (componentEntry s.tables l k).basis then 0 else waterContent s l
    let converted (target : Half) (k : Fin 6) : Nat := min 65535
      (roundHalfUp (target.toNat * (10000 - water k) * (2100 - dryOxygen s l)) (10000 * (2100 - h.o2Ref)))
    (dryOxygen s l < h.o2Ceil → y.ureaSet = converted d.noxTarget 3 ∧ y.limeSet = converted d.hclTarget 1) ∧
    (h.o2Ceil ≤ dryOxygen s l → y.ureaSet = x.ureaSet ∧ y.limeSet = x.limeSet) ∧
    (steam.quality.usable = true →
      y.ureaTerm = min 10000 (steam.value.toNat * d.ureaRatio.toNat / 1000) ∧ y.lastSteam = steam.value.toNat) ∧
    (steam.quality.usable = false → y.ureaTerm = x.ureaTerm ∧ y.lastSteam = x.lastSteam) ∧
    y.limeTerm = min 10000
      ((((s.eau.lines.get l).inst.get 2).value * d.so2Weight.toNat + y.lastSteam * d.limeBase.toNat) / 1000) ∧
    ((s.lsv.get l).pub.operating = false → y.carbon = 0) ∧
    ((s.lsv.get l).pub.operating = true → flow.quality.usable = true →
      y.carbon = min 10000 (flow.value.toNat * d.carbonRate.toNat / 1000)) ∧
    ((s.lsv.get l).pub.operating = true → flow.quality.usable = false → y.carbon = x.carbon) ∧
    rduWork s = { s with rdu := (rduWork s).rdu, rgi := (rduWork s).rgi }) ∧
  (∀ s : State, s.running = false → rduWork s = s) ∧
  ∀ s : State, s.running = true →
    let atMax (l : Line) (r : Reagent) : Bool :=
      let e := s.tables.loops.get (dosingLoop l r)
      (s.lsv.get l).pub.operating &&
        match r with
        | .carbon => decide (((rduWork s).rdu.lines.get l).carbon = 10000)
        | .urea | .lime => yes e.inService && decide (outMaxOf e ≤ (s.lpe.loops.get (dosingLoop l r)).published)
    let before (l : Line) (r : Reagent) : LimitRecord := (s.rdu.lines.get l).limit r
    let since (l : Line) (r : Reagent) : Nat := (before l r).since.getD s.rgi.runTime
    let due (l : Line) (r : Reagent) : Bool := decide (limitTimeOf s.tables.dosing * 1000 ≤ s.rgi.runTime - since l r)
    (∀ (l : Line) (r : Reagent),
      ((rduWork s).rdu.lines.get l).limit r =
        if atMax l r then { since := some (since l r), reported := (before l r).reported || due l r }
        else { since := none, reported := false }) ∧
    (rduWork s).rgi = ([(Line.one, Reagent.urea), (.one, .lime), (.one, .carbon), (.two, .urea), (.two, .lime),
        (.two, .carbon)].filterMap fun p =>
      if atMax p.1 p.2 && !(before p.1 p.2).reported && due p.1 p.2 then
        some ({ kind := .dosingLimit, high := false, cycle := s.rgi.cycleNow, plant := s.rgi.plant,
                subject := p.1.number,
                detail := match p.2 with
                  | .urea => 256 + (5 + p.1.number)
                  | .lime => 2 * 256 + (7 + p.1.number)
                  | .carbon => 3 * 256 } : Event)
      else none).foldl enqueue s.rgi

/-- The flag and value of every component after a work of the EAU by the first row of R108 that holds, on the image and the latch
the samples are formed with. Each sample then joins its accumulator by R110: nothing under the discard mark or once 30,000 samples
are counted, else one operating or non-operating count by the published operating flag, and for a valid operating sample its value
and one valid count. The six components of a line keep equal counts. The water content H is the H2O value limited to 0 to 5,000, and
the dry oxygen the O2 value limited to 0 to 10,000 on basis DRY, and that × 10,000 ÷ (10,000 − H), rounded once, half up, on basis
WET. In RUN the work places the frame in plant time, does this and publishes; in CONFIG it does nothing.
That the exact quotient is compared with 65,535 is the model's reading (log 33), and that an analyzer that is GOOD and reads neither 0
nor 1 is in service is its choice (log 58). -/
def Obligations.ComponentFlagByTheFirstRow : Prop :=
  (∀ (l : Line) (k : Fin 6) (s : State) (h : HalfLatch), (s.eau.lines.get l).latch = some h → h.o2Ref < 2100 →
    h.o2Ceil ≤ 2000 →
    let e := s.tables.emission.get l
    let c := componentEntry s.tables l k
    let i := (s.eau.lines.get l).inst.get k
    let j := ((sampleBoth s).eau.lines.get l).inst.get k
    let water := if yes c.basis then 0 else waterContent s l
    let num := (max 0 (min 65535 (s.point c.point).value)).toNat * 10000 * (2100 - h.o2Ref)
    let den := (10000 - water) * (2100 - dryOxygen s l)
    let held := (s.point c.analyzer).value = 0 ∨ (s.point c.analyzer).quality ≠ .good
    let good := (s.point c.point).quality = .good ∧ (s.point e.o2Point).quality = .good ∧
      (s.point e.h2oPoint).quality = .good
    (held → j = { value := i.lastValid, flag := .maintHold, lastValid := i.lastValid }) ∧
    (¬ held → h.o2Ceil ≤ dryOxygen s l → j = { value := i.value, flag := .o2High, lastValid := i.lastValid }) ∧
    (¬ held → dryOxygen s l < h.o2Ceil → 65535 * den < num →
      j = { value := 65535, flag := .overRange, lastValid := i.lastValid }) ∧
    (¬ held → dryOxygen s l < h.o2Ceil → num ≤ 65535 * den →
      j.value = roundHalfUp num den ∧ j.value ≤ 65535 ∧
        (¬ good → j.flag = .inputInvalid ∧ j.lastValid = i.lastValid) ∧ (good → j.flag = .valid ∧ j.lastValid = j.value))) ∧
  (∀ (l : Line) (s : State),
    let x := s.eau.lines.get l
    let y := (sampleBoth s).eau.lines.get l
    let operating := (s.lsv.get l).pub.operating
    y = { x with inst := y.inst, acc := y.acc } ∧
    (x.discard = true → y.acc = x.acc) ∧
    (x.discard = false → ∀ k : Fin 6,
      let a := x.acc.get k
      let c := y.acc.get k
      let j := y.inst.get k
      (30000 ≤ a.operating + a.nonOperating → c = a) ∧
      (a.operating + a.nonOperating < 30000 →
        (operating = false → c = { a with nonOperating := a.nonOperating + 1 }) ∧
        (operating = true → j.flag = .valid →
          c = { a with operating := a.operating + 1, sum := a.sum + j.value, valid := a.valid + 1 }) ∧
        (operating = true → j.flag ≠ .valid → c = { a with operating := a.operating + 1 }))) ∧
    ((∀ k : Fin 6, (x.acc.get k).operating = (x.acc.get 0).operating ∧ (x.acc.get k).nonOperating = (x.acc.get 0).nonOperating) →
      ∀ k : Fin 6, (y.acc.get k).operating = (y.acc.get 0).operating ∧ (y.acc.get k).nonOperating = (y.acc.get 0).nonOperating)) ∧
  (∀ (l : Line) (s : State),
    let e := s.tables.emission.get l
    let h := (max 0 (min 5000 (s.point e.h2oPoint).value)).toNat
    let o2 := (max 0 (min 10000 (s.point e.o2Point).value)).toNat
    waterContent s l = h ∧ (yes e.o2Basis = true → dryOxygen s l = o2) ∧
    (yes e.o2Basis = false → dryOxygen s l = (2 * (o2 * 10000) + (10000 - h)) / (2 * (10000 - h)))) ∧
  ∀ s : State,
    (s.running = false → eauWork s = s) ∧
    (s.running = true →
      let p := sampleBoth (placeFrame s.rgi.plant s)
      eauWork s = { p with eau := (eauWork s).eau } ∧ (eauWork s).eau.lastPlant = p.eau.lastPlant ∧
        ∀ l : Line, (eauWork s).eau.lines.get l = { p.eau.lines.get l with
          pub := { reduction := (p.eau.lines.get l).reduction, percent := reductionOf (s.tables.emission.get l),
                   stop := (p.eau.lines.get l).stop } })

/-! ## Steam and dispatch -/

/-- DISPATCH_OVERRIDE by the first case of R145 and DISPATCH_CLEAR by R146. On DONE only the override changes, and the reply is the
dispatch status in its 34 bytes. The bytes of an absent override, 0, are the model's choice (log 36), and so is that the reply to a
DISPATCH_CLEAR shows the override it removes as absent (log 59). -/
def Obligations.OverrideIsSetAndCleared : Prop :=
  ∀ (tag : Byte) (target : Word) (ramp : Half) (s : State),
    let d := s.sdu
    let status (o : Option (Nat × Nat)) : List Byte :=
      nat8 (d.block.getD 255) ++ flag8 o.isSome ++ nat32 (o.getD (0, 0)).1 ++ nat16 (o.getD (0, 0)).2 ++ nat32 d.target ++
        nat32 d.effective ++ nat32 d.capability ++ nat32 d.setPoint ++ flag8 d.limiting ++ flag8 d.tripHold ++ nat16 d.total ++
        nat16 d.demand.one ++ nat16 d.demand.two ++ nat16 d.unmet
    let given := (min target.toNat (ratedOf s.tables.turbine), ramp.toNat)
    (100000 < target.toNat ∨ ramp = 0 ∨ 10000 < ramp.toNat →
      exec (.dispatchOverride tag target ramp) s = .next (s.answered 13 tag .refusedRange [])) ∧
    (target.toNat ≤ 100000 → ramp ≠ 0 → ramp.toNat ≤ 10000 →
      (s.running = false →
        exec (.dispatchOverride tag target ramp) s = .next (s.answered 13 tag .refusedState [])) ∧
      (s.running = true →
        exec (.dispatchOverride tag target ramp) s =
          .next (State.answered { s with sdu := { d with override := some given } } 13 tag .done (status (some given))))) ∧
    (s.running = false → exec (.dispatchClear tag) s = .next (s.answered 14 tag .refusedState [])) ∧
    (s.running = true →
      exec (.dispatchClear tag) s =
        .next (State.answered { s with sdu := { d with override := none } } 14 tag .done (status none))) ∧
    (status (some given)).length = 34 ∧ (status none).length = 34

/-- At each work in RUN the active block is the in-use block with the greatest start minute at or below the plant minute of day, else
the in-use block with the greatest start minute of all, else none (R144). The active block gives target, ramp and extraction steam,
none gives 0, the fast ramp and 0, and an override that stands (R145, R147) replaces target and ramp. The extraction steam in use is
that of the active block, and 0 while the trip hold is set (R148). A block's target is taken as at most 100,000 and its ramp in 1 to
10,000, which for words outside these ranges is the model's choice (log 56). -/
def Obligations.ActiveBlockGivesTargetRampAndExtraction : Prop :=
  ∀ s : State, s.running = true →
    let b := s.tables
    let minute := s.rgi.plant.ms / 60000
    let d := (sduWork s).sdu
    let used (i : Fin 48) : Prop := yes (b.blocks.get i).inUse = true
    let start (i : Fin 48) : Nat := min 1439 (b.blocks.get i).start.toNat
    let greatest (i : Fin 48) : Prop := used i ∧
      ((start i ≤ minute ∧ ∀ j, used j → start j ≤ minute → start j ≤ start i) ∨
        ((∀ j, used j → minute < start j) ∧ ∀ j, used j → start j ≤ start i))
    (d.block = none ↔ ∀ j, ¬ used j) ∧
    (d.block ≠ none → ∃ i : Fin 48, d.block = some i.val ∧ greatest i) ∧
    (∀ i : Fin 48, d.block = some i.val →
      (d.override = none → d.target = min 100000 (b.blocks.get i).target.toNat ∧
        rampInUse s = max 1 (min 10000 (b.blocks.get i).ramp.toNat)) ∧
      extractionInUse s = if s.sdu.tripHold then 0 else (b.blocks.get i).extraction.toNat) ∧
    (d.block = none → (d.override = none → d.target = 0 ∧ rampInUse s = fastRampOf b.turbine) ∧ extractionInUse s = 0) ∧
    (∀ target ramp, d.override = some (target, ramp) → d.target = target ∧ rampInUse s = ramp)

/-- At every work in RUN the capability is formed by R148 and the set point, at most the capability and the rated output, is 0 while
the trip hold is set; the override stands exactly while the selected block is that of the work before. The pressure state moves by
the table of R151 with its event, and a change of it empties the accumulator. The set point is first clamped to the capability and
then moves: toward 0 at the fast ramp in LIMITING, else toward the effective target at the ramp in use. A work changes the SDU and
raises that event, and nothing else; in CONFIG it changes nothing. -/
def Obligations.SetPointCapabilityAndPressureState : Prop :=
  (∀ s : State, sduWork s = { s with sdu := (sduWork s).sdu, rgi := (sduWork s).rgi } ∧
    (s.running = false → sduWork s = s)) ∧
  (∀ s : State, s.running = true →
     let d := (sduWork s).sdu
     let available := (s.lsv.get .one).pub.available + (s.lsv.get .two).pub.available
     let extraction := extractionInUse s
     let rated := ratedOf s.tables.turbine
     (d.capability = if available ≤ extraction then 0
       else min rated ((available - extraction) * specificOf s.tables.turbine / 10)) ∧
       d.effective = min d.target (min d.capability rated) ∧ d.setPoint ≤ d.capability ∧ d.capability ≤ rated ∧
       (s.sdu.tripHold = true → d.setPoint = 0 ∧ d.acc = 0 ∧ d.dir = .none ∧ d.pubSource = 0) ∧ d.tripHold = s.sdu.tripHold ∧
       d.block = (selectBlock s.tables (s.rgi.plant.ms / 60000)).map Fin.val ∧
       (d.block = s.sdu.block → d.override = s.sdu.override) ∧ (d.block ≠ s.sdu.block → d.override = none)) ∧
  (∀ s : State, s.running = true →
     let d := (sduWork s).sdu
     let p := s.point s.tables.turbine.pressurePoint
     let low : Int := s.tables.turbine.pLow.toNat
     let usable := p.quality = .good ∨ p.quality = .clamped ∨ p.quality = .forced
     (usable → s.sdu.limiting = false → (d.limiting = true ↔ p.value < low)) ∧
     (usable → s.sdu.limiting = true → (d.limiting = false ↔ low + bandOf s.tables.turbine ≤ p.value)) ∧
     (¬ usable → d.limiting = s.sdu.limiting) ∧
     (d.limiting = s.sdu.limiting → (sduWork s).rgi = s.rgi) ∧
     (d.limiting ≠ s.sdu.limiting → (sduWork s).rgi = enqueue s.rgi
       { kind := .pressureLimit, high := false, cycle := s.rgi.cycleNow, plant := s.rgi.plant, subject := 0,
         detail := if d.limiting then 1 else 0 }) ∧
     (s.sdu.tripHold = false →
       let start : Mover :=
         if d.limiting ≠ s.sdu.limiting ∨ d.capability < s.sdu.setPoint then .rest (min s.sdu.setPoint d.capability)
         else { value := s.sdu.setPoint, acc := s.sdu.acc, dir := s.sdu.dir }
       let m := start.toward (if d.limiting then 0 else d.effective)
         ((if d.limiting then fastRampOf s.tables.turbine else rampInUse s) * s.rgi.advance) 60000
       d.setPoint = m.value ∧ d.acc = m.acc ∧ d.dir = m.dir))

/-- The steps of R150, which the rate limit of R164 shares: from rest at the target nothing moves; else the value moves toward the
target by the whole units the accumulator has gathered and never past it, and while it has not arrived nothing of the accumulator
is lost. A change of direction empties the accumulator first. -/
def Obligations.RampLosesNothingAndNeverPasses : Prop :=
  ∀ (m : Mover) (target growth unit : Nat), 0 < unit →
    let kept (d : RampDir) : Nat := if m.dir = d then m.acc else 0
    let t := m.toward target growth unit
    (m.value = target → t = { value := target, acc := 0, dir := .none }) ∧
    (m.value < target → m.value ≤ t.value ∧ t.value ≤ target ∧
      (t = { value := target, acc := 0, dir := .none } ∧ (target - m.value) * unit ≤ kept .up + growth ∨
        t.dir = .up ∧ t.acc < unit ∧ t.value < target ∧ (t.value - m.value) * unit + t.acc = kept .up + growth)) ∧
    (target < m.value → target ≤ t.value ∧ t.value ≤ m.value ∧
      (t = { value := target, acc := 0, dir := .none } ∧ (m.value - target) * unit ≤ kept .down + growth ∨
        t.dir = .down ∧ t.acc < unit ∧ target < t.value ∧ (m.value - t.value) * unit + t.acc = kept .down + growth))

/-- The steam split: line demands and unmet steam make the total, no line demand exceeds its available steam, and steam is unmet only
where both lines give all they have. The work of the SDU splits the turbine steam of the set point it leaves, rounded up, with the
extraction steam in use, limited to 65,535; and it publishes the set points and the term of loops 10 and 11 and the turbine set
point source. -/
def Obligations.SteamSplitSpillsAndCaps : Prop :=
  (∀ total share one two : Nat, share ≤ 100 →
    let sp := splitSteam total share one two
    let first1 := total * share / 100
    let first2 := total - first1
    sp.total = total ∧ sp.demand.one + sp.demand.two + sp.unmet = total ∧ sp.demand.one ≤ one ∧ sp.demand.two ≤ two ∧
      (sp.unmet ≠ 0 → sp.demand.one = one ∧ sp.demand.two = two) ∧
      (first1 ≤ one → first2 ≤ two → sp.demand.one = first1 ∧ sp.demand.two = first2 ∧ sp.unmet = 0) ∧
      (one < first1 → first2 ≤ two → sp.demand.one = one ∧ sp.demand.two = min two (first2 + (first1 - one))) ∧
      (first1 ≤ one → two < first2 → sp.demand.one = min one (first1 + (first2 - two)) ∧ sp.demand.two = two)) ∧
  ∀ s : State, s.running = true →
    let d := (sduWork s).sdu
    let b := s.tables.turbine
    ∃ turbine, (d.setPoint * 10 ≤ turbine * specificOf b ∧ turbine * specificOf b < d.setPoint * 10 + specificOf b) ∧
      d.total = min 65535 (turbine + extractionInUse s) ∧
      ({ total := d.total, demand := d.demand, unmet := d.unmet } : Split) =
        splitSteam d.total (shareOf s.tables.split) (s.lsv.get .one).pub.available (s.lsv.get .two).pub.available ∧
      d.pubBypassSet = b.pHigh.toNat ∧ d.pubExtractionSet = b.extractionSetPoint.toNat ∧
      d.pubExtractionTerm = min 10000 (extractionInUse s * b.extractionGain.toNat / 1000) ∧
      d.pubSource = if ratedOf b = 0 then 0 else d.setPoint * 10000 / ratedOf b

/-! ## Outputs and trips -/

/-- OUTPUT_MODE sets the mode in RUN and answers with it; a code above 2 is REFUSED_RANGE and CONFIG is REFUSED_STATE. TRIP_RESET by the
first case of R174: where a group is reset, its edge latches are cleared and no others; LATCHED, AUTO and a delay of 0 are released
at once with TRIP_RELEASED detail 1, AUTO_DELAYED else starts or keeps its absent-since. That a delay of 0 is reported with detail 1
is the model's choice (log 40). -/
def Obligations.OutputModeAndTripReset : Prop :=
  (∀ (tag mode : Byte) (s : State),
     (2 < mode.toNat → exec (.outputMode tag mode) s = .next (s.answered 15 tag .refusedRange [])) ∧
     (mode.toNat ≤ 2 → s.running = false → exec (.outputMode tag mode) s = .next (s.answered 15 tag .refusedState [])) ∧
     ∀ m : OutputMode, mode.toNat = m.code → s.running = true →
       exec (.outputMode tag mode) s =
         .next (State.answered { s with otu := { s.otu with mode := m } } 15 tag .done [mode])) ∧
  (∀ (tag group : Byte) (s : State),
     (8 ≤ group.toNat → exec (.tripReset tag group) s = .next (s.answered 16 tag .refusedRange [])) ∧
     ∀ g : Fin 8, group.toNat = g.val →
       let x := s.otu.groups.get g
       let e := s.tables.groups.get g
       (s.running = false → exec (.tripReset tag group) s = .next (s.answered 16 tag .refusedState [])) ∧
       (s.running = true → x.tripped = false → exec (.tripReset tag group) s = .next (s.answered 16 tag .done [])) ∧
       (s.running = true → x.tripped = true → x.level = true →
         exec (.tripReset tag group) s = .next (s.answered 16 tag .refusedState [])) ∧
       (s.running = true → x.tripped = true → x.level = false →
         ∃ (trips : Vector TripWork 32),
           (∀ i : Fin 32, (trips.get i).lastEdge = (s.otu.trips.get i).lastEdge ∧
             (trips.get i).takePresent = (s.otu.trips.get i).takePresent ∧
             ∀ h : Fin 8, (trips.get i).latches.getLsbD h.val = ((s.otu.trips.get i).latches.getLsbD h.val && h != g)) ∧
           (releaseModeOf e ≠ .autoDelayed ∨ releaseDelayOf e = 0 →
             exec (.tripReset tag group) s =
               .next ((({ s with otu := { s.otu with
                 trips := trips,
                 groups := s.otu.groups.set g { tripped := false, absentSince := none, level := false } } } : State).raiseAll
                 [{ kind := .tripReleased, high := true, cycle := s.rgi.cycleNow, plant := s.rgi.plant,
                    subject := g.val, detail := 1 }]).answered 16 tag .done [])) ∧
           (releaseModeOf e = .autoDelayed → releaseDelayOf e ≠ 0 →
             exec (.tripReset tag group) s =
               .next (State.answered { s with otu := { s.otu with
                 trips := trips,
                 groups := s.otu.groups.set g { x with absentSince := some (x.absentSince.getD s.rgi.runTime) } } }
                 16 tag .done []))))

/-- A TRIPPED group in AUTO_DELAYED with no level cause in the last work and no latch is released once its delay has passed from its
absent-since: CLEAR, published so, TRIP_RELEASED with detail 3. With the turbine effect of another published TRIPPED group the trip
hold stays, and without it is cleared.
Taken as a command by itself, which is the model's choice (log 1 and 37). -/
def Obligations.DelayedReleaseAfterTheDelay : Prop :=
  ∀ (g : Fin 8) (since : Nat) (s : State),
    let x := s.otu.groups.get g
    let e := s.tables.groups.get g
    s.running = true → x.tripped = true → x.level = false → x.absentSince = some since →
      (∀ i : Fin 32, (s.otu.trips.get i).latches.getLsbD g.val = false) → releaseModeOf e = .autoDelayed →
      (releaseDelayOf e * 1000 ≤ s.rgi.runTime - since →
        ∃ t, exec (.tripReleasedDelayed g) s = .next t ∧
          t = { s with
            otu := { s.otu with
              groups := s.otu.groups.set g { tripped := false, absentSince := none, level := false },
              pubGroups := s.otu.pubGroups.set g false },
            rgi := enqueue s.rgi
              { kind := .tripReleased, high := true, cycle := s.rgi.cycleNow, plant := s.rgi.plant,
                subject := g.val, detail := 3 },
            sdu := t.sdu } ∧
          ((∃ h : Fin 8, h ≠ g ∧ s.otu.pubGroups.get h = true ∧ yes (s.tables.groups.get h).turbineEffect = true) →
            t.sdu = { s.sdu with tripHold := true, setPoint := 0, acc := 0, dir := .none, pubSource := 0 }) ∧
          ((∀ h : Fin 8, h ≠ g → s.otu.pubGroups.get h = true → yes (s.tables.groups.get h).turbineEffect = false) →
            t.sdu = { s.sdu with tripHold := false })) ∧
      (s.rgi.runTime - since < releaseDelayOf e * 1000 → exec (.tripReleasedDelayed g) s = .next s)

/-- A pair member that waits, demanded active, in output mode NORMAL with no trip on it, is let go once its partner, at rest at
raw scale low, not demanded and not tripped, has been written 0 for the pair interval: it is written the rate-limited value with
PENDING clear, a conflict of the pair has ended, and no other record is written. Each slot of the window carries the published value of
the record whose window index is its own, the member's as now written, and one that no record names 0 with the valid mark clear.
Before that nothing changes. A record's pair and partner are those its pair id and the entry of an in-use pair name.
Taken as a command by itself, which is the model's choice (log 1 and 38), and so is that it forms the whole window (log 38). -/
def Obligations.PairMemberGoesAfterTheInterval : Prop :=
  (∀ (k m : Fin 64) (p : Fin 16) (z : Nat) (s : State),
    let r := s.otu.records.get k
    let q := s.otu.records.get m
    s.running = true → s.otu.firstWork = false → hasSource (outputOf s k) = true → pairOf s.tables k = some (p, m) →
      (s.otu.pub.get k).pending = true → 0 < sourceOf s k → r.last = some (rawZero s k) → s.otu.mode = .normal →
      tripDecides s k = none → tripDecides s m = none → sourceOf s m = 0 → q.last = some (rawZero s m) →
      q.zeroSince = some z →
      (intervalOf (s.tables.pairs.get p) ≤ s.rgi.runTime - z →
        ∃ t, exec (.pairIntervalElapsed k) s = .next t ∧ t = { s with otu := t.otu } ∧
          t.otu = { s.otu with
            records := t.otu.records, pub := t.otu.pub, window := t.otu.window, conflict := s.otu.conflict.set p false } ∧
          (t.otu.pub.get k).pending = false ∧ (t.otu.pub.get k).source = sourceOf s k ∧
          (t.otu.records.get k).last = some (t.otu.pub.get k).written ∧
          ((outputOf s k).rateLimit = 0 → (t.otu.pub.get k).written = toRaw (outputOf s k) (sourceOf s k)) ∧
          ((outputOf s k).rateLimit ≠ 0 →
            (t.otu.pub.get k).written =
              (({ value := rawZero s k, acc := r.acc, dir := r.dir } : Mover).toward (toRaw (outputOf s k) (sourceOf s k))
                ((outputOf s k).rateLimit.toNat * s.rgi.advance) 1000).value) ∧
          (∀ j, j ≠ k → t.otu.records.get j = s.otu.records.get j ∧ t.otu.pub.get j = s.otu.pub.get j) ∧
          (∀ j n : Fin 64,
            let e := s.tables.outputs.get j
            let w := (t.otu.pub.get j).written
            e.source ≠ 0 → e.window.toNat = n.val →
              (∀ i : Fin 64, i ≠ j → (s.tables.outputs.get i).source ≠ 0 → (s.tables.outputs.get i).window ≠ e.window) →
              t.otu.window.get n = { raw := if yes e.direction then 65535 - w else w, valid := true }) ∧
          ∀ n : Fin 64,
            (∀ j : Fin 64, (s.tables.outputs.get j).source ≠ 0 → (s.tables.outputs.get j).window.toNat ≠ n.val) →
            t.otu.window.get n = { raw := 0, valid := false }) ∧
      (s.rgi.runTime - z < intervalOf (s.tables.pairs.get p) → exec (.pairIntervalElapsed k) s = .next s)) ∧
  (∀ (k : Fin 64) (s : State),
    let e := s.tables.outputs.get k
    (tripDecides s k = none ↔ ∀ g : Fin 8, (s.otu.groups.get g).tripped = true →
      (s.tables.groups.get g).affected.getLsbD k.val = false) ∧
    sourceOf s k = sourceValue s e.source.toNat ∧ rawZero s k = e.rawLow.toNat ∧
    ∀ v, toRaw e v = e.rawLow.toNat + roundHalfUp (v * (e.rawHigh.toNat - e.rawLow.toNat)) 10000) ∧
  ∀ (b : Bank) (k m : Fin 64) (p : Fin 16),
    let e := b.pairs.get p
    (pairOf b k = some (p, m) ↔ (b.outputs.get k).pairId.toNat = p.val + 1 ∧ yes e.inUse = true ∧
      (e.memberA.toNat = k.val ∧ m.val = min 63 e.memberB.toNat ∨
        e.memberA.toNat ≠ k.val ∧ e.memberB.toNat = k.val ∧ m.val = min 63 e.memberA.toNat))

/-- What a work in RUN writes of each record with a source, by the first row of R162: its passive value under PASSIVE or with a
TRIPPED group that affects it (0 for a member of an in-use pair, else the override of the lowest-numbered such group, else its own);
under HOLD the last written value; raw scale low and PENDING where the pair rule holds a member back; else the rate-limited value.
The value of a source is that its code names in the list of R159, as last published, and a group's override is that of its lowest
slot whose record byte is the record number plus 1 (a byte above 64 as 64: log 8).
The override mark stands where a row other than the pair's writes another value than the scaled source. What is published for tracking
is the written value converted back, (written − low) × 10,000 ÷ (high − low), rounded half up. Its slot carries the
written value with the valid mark, where its window index is its own. A pair is in conflict while both members are demanded, from a
work in which neither was active and not both are decided by the rows above. In CONFIG a work writes every slot 0 with the valid
mark clear and nothing else.
A pair member under HOLD without a last written value is written 0 (log 15), a partner decided by a trip is taken as R167 and R168
say literally (log 21), and a rate limit of 0 keeps the accumulator (log 30): the model's readings. -/
def Obligations.TrippedAndPassiveOutputsAreWrittenPassive : Prop :=
  (∀ (k : Fin 64) (s : State), s.running = true →
    let t := otuWork s
    let e := s.tables.outputs.get k
    let w := (t.otu.pub.get k).written
    let trips (g : Fin 8) : Prop :=
      (t.otu.groups.get g).tripped = true ∧ (s.tables.groups.get g).affected.getLsbD k.val = true
    let forced (v : Nat) : Prop := w = e.rawLow.toNat + roundHalfUp (v * (e.rawHigh.toNat - e.rawLow.toNat)) 10000
    (∀ g, t.otu.pubGroups.get g = (t.otu.groups.get g).tripped) ∧
    (e.source ≠ 0 → (t.otu.records.get k).last = some w ∧
      (pairOf s.tables k ≠ none → (s.otu.mode = .passive ∨ ∃ g, trips g) → forced 0) ∧
      (pairOf s.tables k = none →
        (∀ g, trips g → (∀ h, h < g → ¬ trips h) →
          forced ((overrideFor (s.tables.groups.get g) k).getD (passiveOf e))) ∧
        ((∀ g, ¬ trips g) → s.otu.mode = .passive → forced (passiveOf e))) ∧
      (e.window.toNat < 64 → (∀ j : Fin 64, j ≠ k → (s.tables.outputs.get j).source ≠ 0 →
          (s.tables.outputs.get j).window ≠ e.window) →
        ∀ n : Fin 64, n.val = e.window.toNat →
          t.otu.window.get n = { raw := if yes e.direction then 65535 - w else w, valid := true })) ∧
    (∀ n : Fin 64, (∀ j : Fin 64, (s.tables.outputs.get j).source ≠ 0 → (s.tables.outputs.get j).window.toNat ≠ n.val) →
      t.otu.window.get n = { raw := 0, valid := false })) ∧
  (∀ (k : Fin 64) (s : State), s.running = true → (s.tables.outputs.get k).source ≠ 0 →
    let t := otuWork s
    let e := s.tables.outputs.get k
    let r := s.otu.records.get k
    let y := t.otu.records.get k
    let p := t.otu.pub.get k
    let source := sourceValue s e.source.toNat
    let scaled := e.rawLow.toNat + roundHalfUp (source * (e.rawHigh.toNat - e.rawLow.toNat)) 10000
    let tripped := ∃ g : Fin 8,
      (t.otu.groups.get g).tripped = true ∧ (s.tables.groups.get g).affected.getLsbD k.val = true
    let active (j : Fin 64) : Prop :=
      ∃ v, (s.otu.records.get j).last = some v ∧ (s.tables.outputs.get j).rawLow.toNat < v
    let demandedAt (j : Fin 64) : Prop := 0 < sourceValue s (s.tables.outputs.get j).source.toNat
    let waits := ∃ q m, pairOf s.tables k = some (q, m) ∧ demandedAt k ∧ ¬ active k ∧
      (demandedAt m ∧ ¬ active m ∨
        ¬ ∃ z, (t.otu.records.get m).zeroSince = some z ∧ intervalOf (s.tables.pairs.get q) ≤ s.rgi.runTime - z)
    let passive := s.otu.mode = .passive ∨ tripped
    let limited : Mover :=
      match r.last with
      | none => { value := scaled, acc := r.acc, dir := r.dir }
      | some v =>
        if e.rateLimit = 0 then { value := scaled, acc := r.acc, dir := r.dir }
        else ({ value := v, acc := r.acc, dir := r.dir } : Mover).toward scaled (e.rateLimit.toNat * s.rgi.advance) 1000
    p.source = source ∧ p.back = roundHalfUp ((p.written - e.rawLow.toNat) * 10000) (e.rawHigh.toNat - e.rawLow.toNat) ∧
    (p.override = true ↔ p.pending = false ∧ p.written ≠ scaled) ∧
    (passive → p.pending = false ∧ y.acc = 0 ∧ y.dir = .none) ∧
    (¬ passive → s.otu.mode = .hold → p.pending = false ∧ y.acc = 0 ∧ y.dir = .none ∧
      (∀ v, r.last = some v → p.written = v) ∧
      (r.last = none → p.written = e.rawLow.toNat +
        roundHalfUp ((if pairOf s.tables k = none then passiveOf e else 0) * (e.rawHigh.toNat - e.rawLow.toNat)) 10000)) ∧
    (¬ passive → s.otu.mode = .normal → (∀ q m, pairOf s.tables k = some (q, m) → (s.tables.outputs.get m).source ≠ 0) →
      (waits → p.pending = true ∧ p.written = e.rawLow.toNat ∧ y.acc = 0 ∧ y.dir = .none) ∧
      (¬ waits → p.pending = false ∧ p.written = limited.value ∧ y.acc = limited.acc ∧ y.dir = limited.dir)) ∧
    y.zeroSince = (if p.written = e.rawLow.toNat then
      some (if s.otu.firstWork then s.rgi.runTime else r.zeroSince.getD s.rgi.runTime) else none)) ∧
  (∀ (q : Fin 16) (s : State), s.running = true →
    let t := otuWork s
    let a := memberA s q
    let b := memberB s q
    let active (j : Fin 64) : Prop :=
      ∃ v, (s.otu.records.get j).last = some v ∧ (s.tables.outputs.get j).rawLow.toNat < v
    let demandedAt (j : Fin 64) : Prop := 0 < sourceValue s (s.tables.outputs.get j).source.toNat
    let undecided (j : Fin 64) : Prop := s.otu.mode = .normal ∧
      ∀ g : Fin 8, (t.otu.groups.get g).tripped = true → (s.tables.groups.get g).affected.getLsbD j.val = false
    (t.otu.conflict.get q = true ↔ yes (s.tables.pairs.get q).inUse = true ∧ demandedAt a ∧ demandedAt b ∧
      (s.otu.conflict.get q = true ∨ ¬ active a ∧ ¬ active b ∧ (undecided a ∨ undecided b)))) ∧
  (∀ s : State, s.running = false →
    let t := otuWork s
    t = { s with otu := { s.otu with window := t.otu.window } } ∧
      ∀ n : Fin 64, t.otu.window.get n = { raw := 0, valid := false }) ∧
  (∀ s : State,
    (∀ i : Fin 12, sourceValue s (i.val + 1) = (s.lpe.loops.get i).published.toNat) ∧ sourceValue s 40 = s.sdu.pubSource ∧
    ∀ l : Line,
      (∀ j : Fin 8, sourceValue s (16 + 8 * l.offset + j.val) =
        if (s.gsq.get l).pub.demands.getLsbD j.val then 10000 else 0) ∧
      sourceValue s (32 + l.offset) = (if (s.lsv.get l).pub.burner then 10000 else 0) ∧
      sourceValue s (48 + l.offset) = (s.rdu.lines.get l).carbon) ∧
  ∀ (e : GroupEntry) (k : Fin 64),
    let names (m : Fin 4) : Prop := min 64 (e.overrides.get m).record.toNat = k.val + 1
    ((∀ m, ¬ names m) → overrideFor e k = none) ∧
    ∀ m, names m → (∀ j, j < m → ¬ names j) → overrideFor e k = some (min 10000 (e.overrides.get m).value.toNat)

/-- A work of the OTU takes a CLEAR group to TRIPPED exactly when a level cause or a standing edge latch (set in this work or left
standing) stands for it, and releases a TRIPPED one only with neither: at once in AUTO, after the delay in AUTO_DELAYED, never in
LATCHED. An entry's input is usable when GOOD or FORCED and not when STALE or BAD. LEVEL_HIGH gives a level cause at a usable value
that is not 0, LEVEL_LOW at one of 0, and the fail-safe flag one at no usable value; RISING, FALLING and BOTH_EDGES take an edge
record of a BINARY point that differs from the one last taken, has the direction, and is not taken as the present one. The present
one is taken, and sets no latch, in the first work after power-on or a restart, and in the next work after a swap of the entry's
point: that this is the record that work reads is the model's choice (log 53). A trigger code above 4 is BOTH_EDGES (log 8).
An edge taken in the work sets its latch in each target group. Taking a trip raises TRIP_TAKEN with the lowest entry whose cause
stands and its kind, a release TRIP_RELEASED, a conflict that begins PAIR_CONFLICT, and the work raises nothing else.
Its publication of the group states sets the trip hold of the SDU, with set point, accumulator and turbine source at 0, where a
TRIPPED group carries the turbine effect, and clears it where none does; the work changes nothing else of the SDU.
That a LATCHED group keeps its absent-since is the model's reading (log 39), and so is the order of these events (log 10); which of a
fail-safe level and an edge of one entry is named stays open (log 4), and so does what a CLAMPED input gives (log 3). -/
def Obligations.TripGroupsMoveByTheirCauses : Prop :=
  (∀ (g : Fin 8) (s : State), s.running = true →
    let x := s.otu.groups.get g
    let y := (otuWork s).otu.groups.get g
    let e := s.tables.groups.get g
    let level := ∃ i : Fin 32, targetsGroup s i g = true ∧ levelCause s i = true
    let latched := ∃ i : Fin 32, ((otuWork s).otu.trips.get i).latches.getLsbD g.val = true
    (level ∨ latched → y.tripped = true ∧ y.absentSince = none ∧ (y.level = true ↔ level)) ∧
    (¬ level → ¬ latched → x.tripped = false → y = { tripped := false, absentSince := none, level := false }) ∧
    (¬ level → ¬ latched → x.tripped = true →
      (releaseModeOf e = .latched → y = { x with level := false }) ∧
      (releaseModeOf e = .auto → y = { tripped := false, absentSince := none, level := false }) ∧
      (releaseModeOf e = .autoDelayed →
        let since := x.absentSince.getD s.rgi.runTime
        (releaseDelayOf e * 1000 ≤ s.rgi.runTime - since →
          y = { tripped := false, absentSince := none, level := false }) ∧
        (s.rgi.runTime - since < releaseDelayOf e * 1000 →
          y = { tripped := true, absentSince := some since, level := false }))) ∧
    (∀ i : Fin 32,
      let w := s.otu.trips.get i
      let v := (otuWork s).otu.trips.get i
      v.lastEdge = edgeRead s i ∧ v.takePresent = false ∧
        v.latches = if edgeTaken s i then w.latches ||| (s.tables.trips.get i).targets else w.latches)) ∧
  (∀ s : State, s.running = true →
    let t := otuWork s
    let turbine (g : Fin 8) : Prop :=
      (t.otu.groups.get g).tripped = true ∧ yes (s.tables.groups.get g).turbineEffect = true
    t = { s with otu := t.otu, rgi := t.rgi, sdu := t.sdu } ∧
    ((∃ g, turbine g) → t.sdu = { s.sdu with tripHold := true, setPoint := 0, acc := 0, dir := .none, pubSource := 0 }) ∧
    ((∀ g, ¬ turbine g) → t.sdu = { s.sdu with tripHold := false }) ∧
    let event (kind : EventKind) (high : Bool) (subject detail : Nat) : Event :=
      { kind := kind, high := high, cycle := s.rgi.cycleNow, plant := s.rgi.plant, subject := subject, detail := detail }
    ∃ trip : Fin 8 → List Event,
      t.rgi = ((List.finRange 8).flatMap trip ++
        (List.finRange 16).filterMap fun p =>
          if t.otu.conflict.get p = true ∧ s.otu.conflict.get p = false then
            some (event .pairConflict false (memberA s p).val (256 * p.val + (memberB s p).val))
          else none).foldl enqueue s.rgi ∧
      ∀ g : Fin 8,
        let x := s.otu.groups.get g
        let y := t.otu.groups.get g
        let causes (i : Fin 32) : Prop := targetsGroup s i g = true ∧ (levelCause s i = true ∨ edgeTaken s i = true)
        (x.tripped = y.tripped → trip g = []) ∧
        (x.tripped = false → y.tripped = true → ∃ detail, trip g = [event .tripTaken true g.val detail]) ∧
        (x.tripped = false → y.tripped = true → ∀ i, causes i → (∀ j, j < i → ¬ causes j) →
          ∃ kind, trip g = [event .tripTaken true g.val (256 * i.val + kind)] ∧
            (valueCause s i = true → kind = 1) ∧
            (valueCause s i = false → failSafeCause s i = false → kind = 2) ∧
            (valueCause s i = false → edgeTaken s i = false → kind = 3) ∧
            (valueCause s i = false → failSafeCause s i = true → edgeTaken s i = true → kind = 2 ∨ kind = 3)) ∧
        (x.tripped = true → y.tripped = false →
          trip g = [event .tripReleased true g.val (if releaseModeOf (s.tables.groups.get g) = .auto then 2 else 3)])) ∧
  ∀ (i : Fin 32) (s : State),
    let e := s.tables.trips.get i
    let w := s.otu.trips.get i
    let p := s.point e.point
    let usable : Prop := failSafeCause s i = false ∧
      (valueCause s i = true ↔ (e.trigger = 0 ∧ p.value ≠ 0) ∨ (e.trigger = 1 ∧ p.value = 0))
    let unusable : Prop := valueCause s i = false ∧ (failSafeCause s i = true ↔ yes e.failSafe = true)
    (levelCause s i = true ↔ failSafeCause s i = true ∨ valueCause s i = true) ∧
    (p.quality = .good ∨ p.quality = .forced → usable) ∧ (p.quality = .stale ∨ p.quality = .bad → unusable) ∧
    (p.quality = .clamped → usable ∨ unusable) ∧
    edgeRead s i = (if pointKind (s.tables.points.get e.point.toFin) = .binary then p.edge else none) ∧
    (edgeTaken s i = true ↔ s.otu.firstWork = false ∧ w.takePresent = false ∧
      ∃ r, edgeRead s i = some r ∧ w.lastEdge ≠ some r ∧
        (e.trigger = 2 ∧ r.rising = true ∨ e.trigger = 3 ∧ r.rising = false ∨ 4 ≤ e.trigger.toNat)) ∧
    ∀ g : Fin 8, targetsGroup s i g = e.targets.getLsbD g.val

/-! ## Invariants that every step keeps -/

/-- Every step keeps the event queue within 64, HIGH events in one order and NORMAL events in the other. -/
def Obligations.StepsKeepTheEventQueue : Prop :=
  ∀ s t : State, QueueSound s.rgi → step s = .next t → QueueSound t.rgi

/-- Every step keeps the written count equal to the number of marks, the active bank of a valid device and a committed shadow free
of offending entries, the device in RUN exactly while the bank-valid flag is set, and the two members of an in-use pair from both
being written active. -/
def Obligations.StepsKeepBanksCheckedAndPairsApart : Prop :=
  ∀ s t : State, (MarksCounted s.tbs ∧ BanksChecked s.tbs ∧ DeviceSound s ∧ PairsApart s) → step s = .next t →
    MarksCounted t.tbs ∧ BanksChecked t.tbs ∧ DeviceSound t ∧ PairsApart t

/-- Every step keeps each line's rings within 96 half-hours and 7 days, strictly ascending and before the open period, and every
value, average and record of the line sound: a half-hour or day record carries exceed exactly when it is VALID and above its limit. -/
def Obligations.StepsKeepTheEmissionRecords : Prop :=
  ∀ s t : State, (∀ l : Line, RingsSound (s.eau.lines.get l) ∧ RecordsSound (s.eau.lines.get l)) → step s = .next t →
    ∀ l : Line, RingsSound (t.eau.lines.get l) ∧ RecordsSound (t.eau.lines.get l)

/-- Every step keeps loops, dispatch record and rate accumulators within their ranges, the remainder of a loop in service within 0 to
D - 1 and its u within its limits, and sequencers and lines in the states and with the publications their chapters allow. -/
def Obligations.StepsKeepTheRanges : Prop :=
  ∀ s t : State,
    ((∀ i : Fin 12, LoopInRange (s.lpe.loops.get i) ∧ LoopFitsEntry s.tables i (s.lpe.loops.get i)) ∧ DispatchInRange s.sdu ∧
      (∀ k : Fin 64, RateInRange (s.otu.records.get k)) ∧
      (∀ l : Line, SequencerSound (s.gsq.get l) ∧ LineSound (s.lsv.get l))) →
    step s = .next t →
    (∀ i : Fin 12, LoopInRange (t.lpe.loops.get i) ∧ LoopFitsEntry t.tables i (t.lpe.loops.get i)) ∧ DispatchInRange t.sdu ∧
      (∀ k : Fin 64, RateInRange (t.otu.records.get k)) ∧ ∀ l : Line, SequencerSound (t.gsq.get l) ∧ LineSound (t.lsv.get l)

/-- The state after reset has every property above. -/
def Obligations.ResetIsSound : Prop := Sound State.reset

/-! ## The whole work of the PIU -/

/-- The PIU's work on an accepted frame in RUN, for every sample the frame may hold: age and toggle reference, condition, filter
history, qualified value and run of a point in use; its published quality and value by the rows of R3, a forced point publishing
its force; its edge record; and the POINT_QUALITY events. A point not in use is published so, and in CONFIG nothing is evaluated.
A release empties the filter once: its mark goes with the first sample that an unforced point takes, and stands while the point is STALE
or BAD and while an ANALOG point is forced again.
A slot the frame does not hold counts as one whose toggle did not change (log 9), the events enter in the order of the points
(log 10), a history emptied under a force is the model's choice (log 46), and so are an image that seeds a point it shows released
(log 47) and an edge from a value that is neither 0 nor 1 (log 49). -/
def Obligations.AcceptedFramePublishesEveryPoint : Prop :=
  ∀ (sample : Nat → Option Slot) (s : State),
    let t := piuWork sample s
    (s.running = false → t = s) ∧
    (s.running = true →
      t = { s with piu := t.piu, rgi := t.rgi } ∧
      t.rgi = ((List.finRange 256).filterMap fun i =>
        let old := (s.piu.work.get i).condition
        let new := (t.piu.work.get i).condition
        if yes (s.tables.points.get i).inUse = true ∧ old ≠ new ∧
            (old = .stale ∨ old = .bad ∨ new = .stale ∨ new = .bad) then
          some ({ kind := .pointQuality, high := false, cycle := s.rgi.cycleNow, plant := s.rgi.plant,
                  subject := i.val, detail := 256 * old.code + new.code } : Event)
        else none).foldl enqueue s.rgi ∧
      ∀ i : Fin 256,
        let e := s.tables.points.get i
        let w := s.piu.work.get i
        let prev := s.piu.image.get i
        let v := t.piu.work.get i
        let out := t.piu.image.get i
        let lost := v.condition = .stale ∨ v.condition = .bad
        (yes e.inUse = false →
          v = pointWorkEmpty ∧
          out = { value := 0, quality := .bad, age := 0, edge := none, newEdge := false }) ∧
        (yes e.inUse = true →
          v.force = w.force ∧ out.age = v.age ∧ out.edge = v.edge ∧
          (sample (slotOf e) = none → v.toggle = w.toggle ∧ v.condition = .bad ∧
            v.age = (if w.toggle = none then 0 else min 65535 (w.age + 1))) ∧
          (∀ sl, sample (slotOf e) = some sl →
            v.toggle = some sl.toggle ∧ v.age = (if w.toggle = some sl.toggle then min 65535 (w.age + 1) else 0) ∧
            (sl.fault = true → v.condition = .bad) ∧
            (sl.fault = false → staleLimitOf e ≤ v.age → v.condition = .stale) ∧
            (sl.fault = false → v.age < staleLimitOf e →
              v.condition =
                (if pointKind e = .analog ∧ (rangeClamp e (scaleRaw e sl.raw)).2 = true then .clamped else .good) ∧
              (pointKind e ≠ .analog → v.released = false) ∧
              (pointKind e = .analog →
                let kept := if w.condition = .stale ∨ w.condition = .bad then [] else w.history
                (w.force ≠ none → v.history = kept ∧ v.released = w.released) ∧
                (w.force = none → v.released = false ∧
                  let joined := (if w.released then [] else kept) ++ [(rangeClamp e (scaleRaw e sl.raw)).1]
                  v.history = joined.drop (joined.length - depthOf e) ∧
                  2 * (v.history.sum - out.value * v.history.length).natAbs ≤ v.history.length ∧
                  (2 * (v.history.sum - out.value * v.history.length).natAbs = v.history.length →
                    v.history.sum.natAbs < (out.value * v.history.length).natAbs))) ∧
              (pointKind e = .binary →
                let x : Bool := (sl.raw != 0) != yes e.invert
                (w.qualified = none → v.qualified = some x ∧ v.run = 0) ∧
                (w.qualified = some x → v.qualified = some x ∧ v.run = 0) ∧
                (w.qualified = some (!x) → w.run + 1 ≤ qualCountOf e → v.qualified = some (!x) ∧ v.run = w.run + 1) ∧
                (w.qualified = some (!x) → qualCountOf e < w.run + 1 → v.qualified = some x ∧ v.run = 0) ∧
                (w.force = none → ∀ q, v.qualified = some q → out.value = if q then 1 else 0)) ∧
              (pointKind e = .counter → w.force = none → out.value = sl.raw.toNat))) ∧
          (lost → v.history = w.history ∧ v.released = w.released ∧ v.qualified = w.qualified ∧ v.run = 0 ∧
            (w.force = none → out.value = prev.value)) ∧
          (∀ f, w.force = some f → out.quality = .forced ∧
            out.value = if pointKind e = .analog then (rangeClamp e f).1 else f) ∧
          (w.force = none → out.quality = match v.condition with
            | .bad => .bad | .stale => .stale | .clamped => .clamped | .good => .good) ∧
          (out.newEdge = true ↔ pointKind e = .binary ∧ out.value ≠ prev.value ∧
            ¬ (w.force = none ∧ w.qualified = none ∧ v.qualified ≠ none)) ∧
          (out.newEdge = true → out.edge =
            some { rising := decide (prev.value < out.value), cycle := s.rgi.cycleNow, runTime := s.rgi.runTime }) ∧
          (out.newEdge = false → out.edge = w.edge)))
end

