-- ==== Sys2Proof/Laws/State.lean ====
section
/-! SUPPORT. One lemma for each field and each update of the state, so that no later proof unfolds an update. -/

namespace Sys2Proof
namespace Machine

/-! `State.withRgi` -/

@[simp] theorem State.withRgi_pending (s : State) (x : Rgi) : (s.withRgi x).pending = s.pending := rfl
@[simp] theorem State.withRgi_rgi (s : State) (x : Rgi) : (s.withRgi x).rgi = x := rfl
@[simp] theorem State.withRgi_tbs (s : State) (x : Rgi) : (s.withRgi x).tbs = s.tbs := rfl
@[simp] theorem State.withRgi_piu (s : State) (x : Rgi) : (s.withRgi x).piu = s.piu := rfl
@[simp] theorem State.withRgi_lpe (s : State) (x : Rgi) : (s.withRgi x).lpe = s.lpe := rfl
@[simp] theorem State.withRgi_gsq (s : State) (x : Rgi) : (s.withRgi x).gsq = s.gsq := rfl
@[simp] theorem State.withRgi_lsv (s : State) (x : Rgi) : (s.withRgi x).lsv = s.lsv := rfl
@[simp] theorem State.withRgi_eau (s : State) (x : Rgi) : (s.withRgi x).eau = s.eau := rfl
@[simp] theorem State.withRgi_rdu (s : State) (x : Rgi) : (s.withRgi x).rdu = s.rdu := rfl
@[simp] theorem State.withRgi_sdu (s : State) (x : Rgi) : (s.withRgi x).sdu = s.sdu := rfl
@[simp] theorem State.withRgi_otu (s : State) (x : Rgi) : (s.withRgi x).otu = s.otu := rfl
@[simp] theorem State.withRgi_replies (s : State) (x : Rgi) : (s.withRgi x).replies = s.replies := rfl
@[simp] theorem State.withRgi_downstream (s : State) (x : Rgi) : (s.withRgi x).downstream = s.downstream := rfl
@[simp] theorem State.withRgi_free (s : State) (x : Rgi) : (s.withRgi x).free = s.free := rfl

/-! `State.withTbs` -/

@[simp] theorem State.withTbs_pending (s : State) (x : Tbs) : (s.withTbs x).pending = s.pending := rfl
@[simp] theorem State.withTbs_rgi (s : State) (x : Tbs) : (s.withTbs x).rgi = s.rgi := rfl
@[simp] theorem State.withTbs_tbs (s : State) (x : Tbs) : (s.withTbs x).tbs = x := rfl
@[simp] theorem State.withTbs_piu (s : State) (x : Tbs) : (s.withTbs x).piu = s.piu := rfl
@[simp] theorem State.withTbs_lpe (s : State) (x : Tbs) : (s.withTbs x).lpe = s.lpe := rfl
@[simp] theorem State.withTbs_gsq (s : State) (x : Tbs) : (s.withTbs x).gsq = s.gsq := rfl
@[simp] theorem State.withTbs_lsv (s : State) (x : Tbs) : (s.withTbs x).lsv = s.lsv := rfl
@[simp] theorem State.withTbs_eau (s : State) (x : Tbs) : (s.withTbs x).eau = s.eau := rfl
@[simp] theorem State.withTbs_rdu (s : State) (x : Tbs) : (s.withTbs x).rdu = s.rdu := rfl
@[simp] theorem State.withTbs_sdu (s : State) (x : Tbs) : (s.withTbs x).sdu = s.sdu := rfl
@[simp] theorem State.withTbs_otu (s : State) (x : Tbs) : (s.withTbs x).otu = s.otu := rfl
@[simp] theorem State.withTbs_replies (s : State) (x : Tbs) : (s.withTbs x).replies = s.replies := rfl
@[simp] theorem State.withTbs_downstream (s : State) (x : Tbs) : (s.withTbs x).downstream = s.downstream := rfl
@[simp] theorem State.withTbs_free (s : State) (x : Tbs) : (s.withTbs x).free = s.free := rfl

/-! `State.withPiu` -/

@[simp] theorem State.withPiu_pending (s : State) (x : Piu) : (s.withPiu x).pending = s.pending := rfl
@[simp] theorem State.withPiu_rgi (s : State) (x : Piu) : (s.withPiu x).rgi = s.rgi := rfl
@[simp] theorem State.withPiu_tbs (s : State) (x : Piu) : (s.withPiu x).tbs = s.tbs := rfl
@[simp] theorem State.withPiu_piu (s : State) (x : Piu) : (s.withPiu x).piu = x := rfl
@[simp] theorem State.withPiu_lpe (s : State) (x : Piu) : (s.withPiu x).lpe = s.lpe := rfl
@[simp] theorem State.withPiu_gsq (s : State) (x : Piu) : (s.withPiu x).gsq = s.gsq := rfl
@[simp] theorem State.withPiu_lsv (s : State) (x : Piu) : (s.withPiu x).lsv = s.lsv := rfl
@[simp] theorem State.withPiu_eau (s : State) (x : Piu) : (s.withPiu x).eau = s.eau := rfl
@[simp] theorem State.withPiu_rdu (s : State) (x : Piu) : (s.withPiu x).rdu = s.rdu := rfl
@[simp] theorem State.withPiu_sdu (s : State) (x : Piu) : (s.withPiu x).sdu = s.sdu := rfl
@[simp] theorem State.withPiu_otu (s : State) (x : Piu) : (s.withPiu x).otu = s.otu := rfl
@[simp] theorem State.withPiu_replies (s : State) (x : Piu) : (s.withPiu x).replies = s.replies := rfl
@[simp] theorem State.withPiu_downstream (s : State) (x : Piu) : (s.withPiu x).downstream = s.downstream := rfl
@[simp] theorem State.withPiu_free (s : State) (x : Piu) : (s.withPiu x).free = s.free := rfl

/-! `State.withLpe` -/

@[simp] theorem State.withLpe_pending (s : State) (x : Lpe) : (s.withLpe x).pending = s.pending := rfl
@[simp] theorem State.withLpe_rgi (s : State) (x : Lpe) : (s.withLpe x).rgi = s.rgi := rfl
@[simp] theorem State.withLpe_tbs (s : State) (x : Lpe) : (s.withLpe x).tbs = s.tbs := rfl
@[simp] theorem State.withLpe_piu (s : State) (x : Lpe) : (s.withLpe x).piu = s.piu := rfl
@[simp] theorem State.withLpe_lpe (s : State) (x : Lpe) : (s.withLpe x).lpe = x := rfl
@[simp] theorem State.withLpe_gsq (s : State) (x : Lpe) : (s.withLpe x).gsq = s.gsq := rfl
@[simp] theorem State.withLpe_lsv (s : State) (x : Lpe) : (s.withLpe x).lsv = s.lsv := rfl
@[simp] theorem State.withLpe_eau (s : State) (x : Lpe) : (s.withLpe x).eau = s.eau := rfl
@[simp] theorem State.withLpe_rdu (s : State) (x : Lpe) : (s.withLpe x).rdu = s.rdu := rfl
@[simp] theorem State.withLpe_sdu (s : State) (x : Lpe) : (s.withLpe x).sdu = s.sdu := rfl
@[simp] theorem State.withLpe_otu (s : State) (x : Lpe) : (s.withLpe x).otu = s.otu := rfl
@[simp] theorem State.withLpe_replies (s : State) (x : Lpe) : (s.withLpe x).replies = s.replies := rfl
@[simp] theorem State.withLpe_downstream (s : State) (x : Lpe) : (s.withLpe x).downstream = s.downstream := rfl
@[simp] theorem State.withLpe_free (s : State) (x : Lpe) : (s.withLpe x).free = s.free := rfl

/-! `State.withGsq` -/

@[simp] theorem State.withGsq_pending (s : State) (l : Line) (x : Gsq) : (s.withGsq l x).pending = s.pending := rfl
@[simp] theorem State.withGsq_rgi (s : State) (l : Line) (x : Gsq) : (s.withGsq l x).rgi = s.rgi := rfl
@[simp] theorem State.withGsq_tbs (s : State) (l : Line) (x : Gsq) : (s.withGsq l x).tbs = s.tbs := rfl
@[simp] theorem State.withGsq_piu (s : State) (l : Line) (x : Gsq) : (s.withGsq l x).piu = s.piu := rfl
@[simp] theorem State.withGsq_lpe (s : State) (l : Line) (x : Gsq) : (s.withGsq l x).lpe = s.lpe := rfl
@[simp] theorem State.withGsq_gsq (s : State) (l : Line) (x : Gsq) : (s.withGsq l x).gsq = s.gsq.set l x := rfl
@[simp] theorem State.withGsq_lsv (s : State) (l : Line) (x : Gsq) : (s.withGsq l x).lsv = s.lsv := rfl
@[simp] theorem State.withGsq_eau (s : State) (l : Line) (x : Gsq) : (s.withGsq l x).eau = s.eau := rfl
@[simp] theorem State.withGsq_rdu (s : State) (l : Line) (x : Gsq) : (s.withGsq l x).rdu = s.rdu := rfl
@[simp] theorem State.withGsq_sdu (s : State) (l : Line) (x : Gsq) : (s.withGsq l x).sdu = s.sdu := rfl
@[simp] theorem State.withGsq_otu (s : State) (l : Line) (x : Gsq) : (s.withGsq l x).otu = s.otu := rfl
@[simp] theorem State.withGsq_replies (s : State) (l : Line) (x : Gsq) : (s.withGsq l x).replies = s.replies := rfl
@[simp] theorem State.withGsq_downstream (s : State) (l : Line) (x : Gsq) : (s.withGsq l x).downstream = s.downstream := rfl
@[simp] theorem State.withGsq_free (s : State) (l : Line) (x : Gsq) : (s.withGsq l x).free = s.free := rfl

/-! `State.withLsv` -/

@[simp] theorem State.withLsv_pending (s : State) (l : Line) (x : Lsv) : (s.withLsv l x).pending = s.pending := rfl
@[simp] theorem State.withLsv_rgi (s : State) (l : Line) (x : Lsv) : (s.withLsv l x).rgi = s.rgi := rfl
@[simp] theorem State.withLsv_tbs (s : State) (l : Line) (x : Lsv) : (s.withLsv l x).tbs = s.tbs := rfl
@[simp] theorem State.withLsv_piu (s : State) (l : Line) (x : Lsv) : (s.withLsv l x).piu = s.piu := rfl
@[simp] theorem State.withLsv_lpe (s : State) (l : Line) (x : Lsv) : (s.withLsv l x).lpe = s.lpe := rfl
@[simp] theorem State.withLsv_gsq (s : State) (l : Line) (x : Lsv) : (s.withLsv l x).gsq = s.gsq := rfl
@[simp] theorem State.withLsv_lsv (s : State) (l : Line) (x : Lsv) : (s.withLsv l x).lsv = s.lsv.set l x := rfl
@[simp] theorem State.withLsv_eau (s : State) (l : Line) (x : Lsv) : (s.withLsv l x).eau = s.eau := rfl
@[simp] theorem State.withLsv_rdu (s : State) (l : Line) (x : Lsv) : (s.withLsv l x).rdu = s.rdu := rfl
@[simp] theorem State.withLsv_sdu (s : State) (l : Line) (x : Lsv) : (s.withLsv l x).sdu = s.sdu := rfl
@[simp] theorem State.withLsv_otu (s : State) (l : Line) (x : Lsv) : (s.withLsv l x).otu = s.otu := rfl
@[simp] theorem State.withLsv_replies (s : State) (l : Line) (x : Lsv) : (s.withLsv l x).replies = s.replies := rfl
@[simp] theorem State.withLsv_downstream (s : State) (l : Line) (x : Lsv) : (s.withLsv l x).downstream = s.downstream := rfl
@[simp] theorem State.withLsv_free (s : State) (l : Line) (x : Lsv) : (s.withLsv l x).free = s.free := rfl

/-! `State.withEau` -/

@[simp] theorem State.withEau_pending (s : State) (x : Eau) : (s.withEau x).pending = s.pending := rfl
@[simp] theorem State.withEau_rgi (s : State) (x : Eau) : (s.withEau x).rgi = s.rgi := rfl
@[simp] theorem State.withEau_tbs (s : State) (x : Eau) : (s.withEau x).tbs = s.tbs := rfl
@[simp] theorem State.withEau_piu (s : State) (x : Eau) : (s.withEau x).piu = s.piu := rfl
@[simp] theorem State.withEau_lpe (s : State) (x : Eau) : (s.withEau x).lpe = s.lpe := rfl
@[simp] theorem State.withEau_gsq (s : State) (x : Eau) : (s.withEau x).gsq = s.gsq := rfl
@[simp] theorem State.withEau_lsv (s : State) (x : Eau) : (s.withEau x).lsv = s.lsv := rfl
@[simp] theorem State.withEau_eau (s : State) (x : Eau) : (s.withEau x).eau = x := rfl
@[simp] theorem State.withEau_rdu (s : State) (x : Eau) : (s.withEau x).rdu = s.rdu := rfl
@[simp] theorem State.withEau_sdu (s : State) (x : Eau) : (s.withEau x).sdu = s.sdu := rfl
@[simp] theorem State.withEau_otu (s : State) (x : Eau) : (s.withEau x).otu = s.otu := rfl
@[simp] theorem State.withEau_replies (s : State) (x : Eau) : (s.withEau x).replies = s.replies := rfl
@[simp] theorem State.withEau_downstream (s : State) (x : Eau) : (s.withEau x).downstream = s.downstream := rfl
@[simp] theorem State.withEau_free (s : State) (x : Eau) : (s.withEau x).free = s.free := rfl

/-! `State.withRdu` -/

@[simp] theorem State.withRdu_pending (s : State) (x : Rdu) : (s.withRdu x).pending = s.pending := rfl
@[simp] theorem State.withRdu_rgi (s : State) (x : Rdu) : (s.withRdu x).rgi = s.rgi := rfl
@[simp] theorem State.withRdu_tbs (s : State) (x : Rdu) : (s.withRdu x).tbs = s.tbs := rfl
@[simp] theorem State.withRdu_piu (s : State) (x : Rdu) : (s.withRdu x).piu = s.piu := rfl
@[simp] theorem State.withRdu_lpe (s : State) (x : Rdu) : (s.withRdu x).lpe = s.lpe := rfl
@[simp] theorem State.withRdu_gsq (s : State) (x : Rdu) : (s.withRdu x).gsq = s.gsq := rfl
@[simp] theorem State.withRdu_lsv (s : State) (x : Rdu) : (s.withRdu x).lsv = s.lsv := rfl
@[simp] theorem State.withRdu_eau (s : State) (x : Rdu) : (s.withRdu x).eau = s.eau := rfl
@[simp] theorem State.withRdu_rdu (s : State) (x : Rdu) : (s.withRdu x).rdu = x := rfl
@[simp] theorem State.withRdu_sdu (s : State) (x : Rdu) : (s.withRdu x).sdu = s.sdu := rfl
@[simp] theorem State.withRdu_otu (s : State) (x : Rdu) : (s.withRdu x).otu = s.otu := rfl
@[simp] theorem State.withRdu_replies (s : State) (x : Rdu) : (s.withRdu x).replies = s.replies := rfl
@[simp] theorem State.withRdu_downstream (s : State) (x : Rdu) : (s.withRdu x).downstream = s.downstream := rfl
@[simp] theorem State.withRdu_free (s : State) (x : Rdu) : (s.withRdu x).free = s.free := rfl

/-! `State.withSdu` -/

@[simp] theorem State.withSdu_pending (s : State) (x : Sdu) : (s.withSdu x).pending = s.pending := rfl
@[simp] theorem State.withSdu_rgi (s : State) (x : Sdu) : (s.withSdu x).rgi = s.rgi := rfl
@[simp] theorem State.withSdu_tbs (s : State) (x : Sdu) : (s.withSdu x).tbs = s.tbs := rfl
@[simp] theorem State.withSdu_piu (s : State) (x : Sdu) : (s.withSdu x).piu = s.piu := rfl
@[simp] theorem State.withSdu_lpe (s : State) (x : Sdu) : (s.withSdu x).lpe = s.lpe := rfl
@[simp] theorem State.withSdu_gsq (s : State) (x : Sdu) : (s.withSdu x).gsq = s.gsq := rfl
@[simp] theorem State.withSdu_lsv (s : State) (x : Sdu) : (s.withSdu x).lsv = s.lsv := rfl
@[simp] theorem State.withSdu_eau (s : State) (x : Sdu) : (s.withSdu x).eau = s.eau := rfl
@[simp] theorem State.withSdu_rdu (s : State) (x : Sdu) : (s.withSdu x).rdu = s.rdu := rfl
@[simp] theorem State.withSdu_sdu (s : State) (x : Sdu) : (s.withSdu x).sdu = x := rfl
@[simp] theorem State.withSdu_otu (s : State) (x : Sdu) : (s.withSdu x).otu = s.otu := rfl
@[simp] theorem State.withSdu_replies (s : State) (x : Sdu) : (s.withSdu x).replies = s.replies := rfl
@[simp] theorem State.withSdu_downstream (s : State) (x : Sdu) : (s.withSdu x).downstream = s.downstream := rfl
@[simp] theorem State.withSdu_free (s : State) (x : Sdu) : (s.withSdu x).free = s.free := rfl

/-! `State.withOtu` -/

@[simp] theorem State.withOtu_pending (s : State) (x : Otu) : (s.withOtu x).pending = s.pending := rfl
@[simp] theorem State.withOtu_rgi (s : State) (x : Otu) : (s.withOtu x).rgi = s.rgi := rfl
@[simp] theorem State.withOtu_tbs (s : State) (x : Otu) : (s.withOtu x).tbs = s.tbs := rfl
@[simp] theorem State.withOtu_piu (s : State) (x : Otu) : (s.withOtu x).piu = s.piu := rfl
@[simp] theorem State.withOtu_lpe (s : State) (x : Otu) : (s.withOtu x).lpe = s.lpe := rfl
@[simp] theorem State.withOtu_gsq (s : State) (x : Otu) : (s.withOtu x).gsq = s.gsq := rfl
@[simp] theorem State.withOtu_lsv (s : State) (x : Otu) : (s.withOtu x).lsv = s.lsv := rfl
@[simp] theorem State.withOtu_eau (s : State) (x : Otu) : (s.withOtu x).eau = s.eau := rfl
@[simp] theorem State.withOtu_rdu (s : State) (x : Otu) : (s.withOtu x).rdu = s.rdu := rfl
@[simp] theorem State.withOtu_sdu (s : State) (x : Otu) : (s.withOtu x).sdu = s.sdu := rfl
@[simp] theorem State.withOtu_otu (s : State) (x : Otu) : (s.withOtu x).otu = x := rfl
@[simp] theorem State.withOtu_replies (s : State) (x : Otu) : (s.withOtu x).replies = s.replies := rfl
@[simp] theorem State.withOtu_downstream (s : State) (x : Otu) : (s.withOtu x).downstream = s.downstream := rfl
@[simp] theorem State.withOtu_free (s : State) (x : Otu) : (s.withOtu x).free = s.free := rfl

/-! `State.withReplies` -/

@[simp] theorem State.withReplies_pending (s : State) (x : List Reply) : (s.withReplies x).pending = s.pending := rfl
@[simp] theorem State.withReplies_rgi (s : State) (x : List Reply) : (s.withReplies x).rgi = s.rgi := rfl
@[simp] theorem State.withReplies_tbs (s : State) (x : List Reply) : (s.withReplies x).tbs = s.tbs := rfl
@[simp] theorem State.withReplies_piu (s : State) (x : List Reply) : (s.withReplies x).piu = s.piu := rfl
@[simp] theorem State.withReplies_lpe (s : State) (x : List Reply) : (s.withReplies x).lpe = s.lpe := rfl
@[simp] theorem State.withReplies_gsq (s : State) (x : List Reply) : (s.withReplies x).gsq = s.gsq := rfl
@[simp] theorem State.withReplies_lsv (s : State) (x : List Reply) : (s.withReplies x).lsv = s.lsv := rfl
@[simp] theorem State.withReplies_eau (s : State) (x : List Reply) : (s.withReplies x).eau = s.eau := rfl
@[simp] theorem State.withReplies_rdu (s : State) (x : List Reply) : (s.withReplies x).rdu = s.rdu := rfl
@[simp] theorem State.withReplies_sdu (s : State) (x : List Reply) : (s.withReplies x).sdu = s.sdu := rfl
@[simp] theorem State.withReplies_otu (s : State) (x : List Reply) : (s.withReplies x).otu = s.otu := rfl
@[simp] theorem State.withReplies_replies (s : State) (x : List Reply) : (s.withReplies x).replies = x := rfl
@[simp] theorem State.withReplies_downstream (s : State) (x : List Reply) : (s.withReplies x).downstream = s.downstream := rfl
@[simp] theorem State.withReplies_free (s : State) (x : List Reply) : (s.withReplies x).free = s.free := rfl

/-! `State.withDownstream` -/

@[simp] theorem State.withDownstream_pending (s : State) (x : List Byte) : (s.withDownstream x).pending = s.pending := rfl
@[simp] theorem State.withDownstream_rgi (s : State) (x : List Byte) : (s.withDownstream x).rgi = s.rgi := rfl
@[simp] theorem State.withDownstream_tbs (s : State) (x : List Byte) : (s.withDownstream x).tbs = s.tbs := rfl
@[simp] theorem State.withDownstream_piu (s : State) (x : List Byte) : (s.withDownstream x).piu = s.piu := rfl
@[simp] theorem State.withDownstream_lpe (s : State) (x : List Byte) : (s.withDownstream x).lpe = s.lpe := rfl
@[simp] theorem State.withDownstream_gsq (s : State) (x : List Byte) : (s.withDownstream x).gsq = s.gsq := rfl
@[simp] theorem State.withDownstream_lsv (s : State) (x : List Byte) : (s.withDownstream x).lsv = s.lsv := rfl
@[simp] theorem State.withDownstream_eau (s : State) (x : List Byte) : (s.withDownstream x).eau = s.eau := rfl
@[simp] theorem State.withDownstream_rdu (s : State) (x : List Byte) : (s.withDownstream x).rdu = s.rdu := rfl
@[simp] theorem State.withDownstream_sdu (s : State) (x : List Byte) : (s.withDownstream x).sdu = s.sdu := rfl
@[simp] theorem State.withDownstream_otu (s : State) (x : List Byte) : (s.withDownstream x).otu = s.otu := rfl
@[simp] theorem State.withDownstream_replies (s : State) (x : List Byte) : (s.withDownstream x).replies = s.replies := rfl
@[simp] theorem State.withDownstream_downstream (s : State) (x : List Byte) : (s.withDownstream x).downstream = some x := rfl
@[simp] theorem State.withDownstream_free (s : State) (x : List Byte) : (s.withDownstream x).free = s.free := rfl

/-! `State.drawFree` -/

@[simp] theorem State.drawFree_pending (s : State) : (s.drawFree).pending = s.pending := rfl
@[simp] theorem State.drawFree_rgi (s : State) : (s.drawFree).rgi = s.rgi := rfl
@[simp] theorem State.drawFree_tbs (s : State) : (s.drawFree).tbs = s.tbs := rfl
@[simp] theorem State.drawFree_piu (s : State) : (s.drawFree).piu = s.piu := rfl
@[simp] theorem State.drawFree_lpe (s : State) : (s.drawFree).lpe = s.lpe := rfl
@[simp] theorem State.drawFree_gsq (s : State) : (s.drawFree).gsq = s.gsq := rfl
@[simp] theorem State.drawFree_lsv (s : State) : (s.drawFree).lsv = s.lsv := rfl
@[simp] theorem State.drawFree_eau (s : State) : (s.drawFree).eau = s.eau := rfl
@[simp] theorem State.drawFree_rdu (s : State) : (s.drawFree).rdu = s.rdu := rfl
@[simp] theorem State.drawFree_sdu (s : State) : (s.drawFree).sdu = s.sdu := rfl
@[simp] theorem State.drawFree_otu (s : State) : (s.drawFree).otu = s.otu := rfl
@[simp] theorem State.drawFree_replies (s : State) : (s.drawFree).replies = s.replies := rfl
@[simp] theorem State.drawFree_downstream (s : State) : (s.drawFree).downstream = s.downstream := rfl
@[simp] theorem State.drawFree_free (s : State) : (s.drawFree).free = s.free + 1 := rfl

/-! `State.withPending` -/

@[simp] theorem State.withPending_pending (s : State) (x : List Instr) : (s.withPending x).pending = x := rfl
@[simp] theorem State.withPending_rgi (s : State) (x : List Instr) : (s.withPending x).rgi = s.rgi := rfl
@[simp] theorem State.withPending_tbs (s : State) (x : List Instr) : (s.withPending x).tbs = s.tbs := rfl
@[simp] theorem State.withPending_piu (s : State) (x : List Instr) : (s.withPending x).piu = s.piu := rfl
@[simp] theorem State.withPending_lpe (s : State) (x : List Instr) : (s.withPending x).lpe = s.lpe := rfl
@[simp] theorem State.withPending_gsq (s : State) (x : List Instr) : (s.withPending x).gsq = s.gsq := rfl
@[simp] theorem State.withPending_lsv (s : State) (x : List Instr) : (s.withPending x).lsv = s.lsv := rfl
@[simp] theorem State.withPending_eau (s : State) (x : List Instr) : (s.withPending x).eau = s.eau := rfl
@[simp] theorem State.withPending_rdu (s : State) (x : List Instr) : (s.withPending x).rdu = s.rdu := rfl
@[simp] theorem State.withPending_sdu (s : State) (x : List Instr) : (s.withPending x).sdu = s.sdu := rfl
@[simp] theorem State.withPending_otu (s : State) (x : List Instr) : (s.withPending x).otu = s.otu := rfl
@[simp] theorem State.withPending_replies (s : State) (x : List Instr) : (s.withPending x).replies = s.replies := rfl
@[simp] theorem State.withPending_downstream (s : State) (x : List Instr) : (s.withPending x).downstream = s.downstream := rfl
@[simp] theorem State.withPending_free (s : State) (x : List Instr) : (s.withPending x).free = s.free := rfl

/-! `State.withEauLine` -/

@[simp] theorem State.withEauLine_pending (s : State) (l : Line) (x : EauLine) : (s.withEauLine l x).pending = s.pending := rfl
@[simp] theorem State.withEauLine_rgi (s : State) (l : Line) (x : EauLine) : (s.withEauLine l x).rgi = s.rgi := rfl
@[simp] theorem State.withEauLine_tbs (s : State) (l : Line) (x : EauLine) : (s.withEauLine l x).tbs = s.tbs := rfl
@[simp] theorem State.withEauLine_piu (s : State) (l : Line) (x : EauLine) : (s.withEauLine l x).piu = s.piu := rfl
@[simp] theorem State.withEauLine_lpe (s : State) (l : Line) (x : EauLine) : (s.withEauLine l x).lpe = s.lpe := rfl
@[simp] theorem State.withEauLine_gsq (s : State) (l : Line) (x : EauLine) : (s.withEauLine l x).gsq = s.gsq := rfl
@[simp] theorem State.withEauLine_lsv (s : State) (l : Line) (x : EauLine) : (s.withEauLine l x).lsv = s.lsv := rfl
@[simp] theorem State.withEauLine_eau (s : State) (l : Line) (x : EauLine) : (s.withEauLine l x).eau = { s.eau with lines := s.eau.lines.set l x } := rfl
@[simp] theorem State.withEauLine_rdu (s : State) (l : Line) (x : EauLine) : (s.withEauLine l x).rdu = s.rdu := rfl
@[simp] theorem State.withEauLine_sdu (s : State) (l : Line) (x : EauLine) : (s.withEauLine l x).sdu = s.sdu := rfl
@[simp] theorem State.withEauLine_otu (s : State) (l : Line) (x : EauLine) : (s.withEauLine l x).otu = s.otu := rfl
@[simp] theorem State.withEauLine_replies (s : State) (l : Line) (x : EauLine) : (s.withEauLine l x).replies = s.replies := rfl
@[simp] theorem State.withEauLine_downstream (s : State) (l : Line) (x : EauLine) : (s.withEauLine l x).downstream = s.downstream := rfl
@[simp] theorem State.withEauLine_free (s : State) (l : Line) (x : EauLine) : (s.withEauLine l x).free = s.free := rfl

/-! `State.withPointWork` -/

@[simp] theorem State.withPointWork_pending (s : State) (i : Fin 256) (x : PointWork) : (s.withPointWork i x).pending = s.pending := rfl
@[simp] theorem State.withPointWork_rgi (s : State) (i : Fin 256) (x : PointWork) : (s.withPointWork i x).rgi = s.rgi := rfl
@[simp] theorem State.withPointWork_tbs (s : State) (i : Fin 256) (x : PointWork) : (s.withPointWork i x).tbs = s.tbs := rfl
@[simp] theorem State.withPointWork_piu (s : State) (i : Fin 256) (x : PointWork) : (s.withPointWork i x).piu = { s.piu with work := s.piu.work.set i x } := rfl
@[simp] theorem State.withPointWork_lpe (s : State) (i : Fin 256) (x : PointWork) : (s.withPointWork i x).lpe = s.lpe := rfl
@[simp] theorem State.withPointWork_gsq (s : State) (i : Fin 256) (x : PointWork) : (s.withPointWork i x).gsq = s.gsq := rfl
@[simp] theorem State.withPointWork_lsv (s : State) (i : Fin 256) (x : PointWork) : (s.withPointWork i x).lsv = s.lsv := rfl
@[simp] theorem State.withPointWork_eau (s : State) (i : Fin 256) (x : PointWork) : (s.withPointWork i x).eau = s.eau := rfl
@[simp] theorem State.withPointWork_rdu (s : State) (i : Fin 256) (x : PointWork) : (s.withPointWork i x).rdu = s.rdu := rfl
@[simp] theorem State.withPointWork_sdu (s : State) (i : Fin 256) (x : PointWork) : (s.withPointWork i x).sdu = s.sdu := rfl
@[simp] theorem State.withPointWork_otu (s : State) (i : Fin 256) (x : PointWork) : (s.withPointWork i x).otu = s.otu := rfl
@[simp] theorem State.withPointWork_replies (s : State) (i : Fin 256) (x : PointWork) : (s.withPointWork i x).replies = s.replies := rfl
@[simp] theorem State.withPointWork_downstream (s : State) (i : Fin 256) (x : PointWork) : (s.withPointWork i x).downstream = s.downstream := rfl
@[simp] theorem State.withPointWork_free (s : State) (i : Fin 256) (x : PointWork) : (s.withPointWork i x).free = s.free := rfl

/-! `State.withLoop` -/

@[simp] theorem State.withLoop_pending (s : State) (i : Fin 12) (x : LoopRecord) : (s.withLoop i x).pending = s.pending := rfl
@[simp] theorem State.withLoop_rgi (s : State) (i : Fin 12) (x : LoopRecord) : (s.withLoop i x).rgi = s.rgi := rfl
@[simp] theorem State.withLoop_tbs (s : State) (i : Fin 12) (x : LoopRecord) : (s.withLoop i x).tbs = s.tbs := rfl
@[simp] theorem State.withLoop_piu (s : State) (i : Fin 12) (x : LoopRecord) : (s.withLoop i x).piu = s.piu := rfl
@[simp] theorem State.withLoop_lpe (s : State) (i : Fin 12) (x : LoopRecord) : (s.withLoop i x).lpe = { s.lpe with loops := s.lpe.loops.set i x } := rfl
@[simp] theorem State.withLoop_gsq (s : State) (i : Fin 12) (x : LoopRecord) : (s.withLoop i x).gsq = s.gsq := rfl
@[simp] theorem State.withLoop_lsv (s : State) (i : Fin 12) (x : LoopRecord) : (s.withLoop i x).lsv = s.lsv := rfl
@[simp] theorem State.withLoop_eau (s : State) (i : Fin 12) (x : LoopRecord) : (s.withLoop i x).eau = s.eau := rfl
@[simp] theorem State.withLoop_rdu (s : State) (i : Fin 12) (x : LoopRecord) : (s.withLoop i x).rdu = s.rdu := rfl
@[simp] theorem State.withLoop_sdu (s : State) (i : Fin 12) (x : LoopRecord) : (s.withLoop i x).sdu = s.sdu := rfl
@[simp] theorem State.withLoop_otu (s : State) (i : Fin 12) (x : LoopRecord) : (s.withLoop i x).otu = s.otu := rfl
@[simp] theorem State.withLoop_replies (s : State) (i : Fin 12) (x : LoopRecord) : (s.withLoop i x).replies = s.replies := rfl
@[simp] theorem State.withLoop_downstream (s : State) (i : Fin 12) (x : LoopRecord) : (s.withLoop i x).downstream = s.downstream := rfl
@[simp] theorem State.withLoop_free (s : State) (i : Fin 12) (x : LoopRecord) : (s.withLoop i x).free = s.free := rfl

/-! `State.withGroup` -/

@[simp] theorem State.withGroup_pending (s : State) (g : Fin 8) (x : TripGroup) : (s.withGroup g x).pending = s.pending := rfl
@[simp] theorem State.withGroup_rgi (s : State) (g : Fin 8) (x : TripGroup) : (s.withGroup g x).rgi = s.rgi := rfl
@[simp] theorem State.withGroup_tbs (s : State) (g : Fin 8) (x : TripGroup) : (s.withGroup g x).tbs = s.tbs := rfl
@[simp] theorem State.withGroup_piu (s : State) (g : Fin 8) (x : TripGroup) : (s.withGroup g x).piu = s.piu := rfl
@[simp] theorem State.withGroup_lpe (s : State) (g : Fin 8) (x : TripGroup) : (s.withGroup g x).lpe = s.lpe := rfl
@[simp] theorem State.withGroup_gsq (s : State) (g : Fin 8) (x : TripGroup) : (s.withGroup g x).gsq = s.gsq := rfl
@[simp] theorem State.withGroup_lsv (s : State) (g : Fin 8) (x : TripGroup) : (s.withGroup g x).lsv = s.lsv := rfl
@[simp] theorem State.withGroup_eau (s : State) (g : Fin 8) (x : TripGroup) : (s.withGroup g x).eau = s.eau := rfl
@[simp] theorem State.withGroup_rdu (s : State) (g : Fin 8) (x : TripGroup) : (s.withGroup g x).rdu = s.rdu := rfl
@[simp] theorem State.withGroup_sdu (s : State) (g : Fin 8) (x : TripGroup) : (s.withGroup g x).sdu = s.sdu := rfl
@[simp] theorem State.withGroup_otu (s : State) (g : Fin 8) (x : TripGroup) : (s.withGroup g x).otu = { s.otu with groups := s.otu.groups.set g x } := rfl
@[simp] theorem State.withGroup_replies (s : State) (g : Fin 8) (x : TripGroup) : (s.withGroup g x).replies = s.replies := rfl
@[simp] theorem State.withGroup_downstream (s : State) (g : Fin 8) (x : TripGroup) : (s.withGroup g x).downstream = s.downstream := rfl
@[simp] theorem State.withGroup_free (s : State) (g : Fin 8) (x : TripGroup) : (s.withGroup g x).free = s.free := rfl

/-! `State.raiseAll` changes the event queue alone -/

@[simp] theorem State.raiseAll_pending (s : State) (es : List Event) : (s.raiseAll es).pending = s.pending := rfl
@[simp] theorem State.raiseAll_tbs (s : State) (es : List Event) : (s.raiseAll es).tbs = s.tbs := rfl
@[simp] theorem State.raiseAll_piu (s : State) (es : List Event) : (s.raiseAll es).piu = s.piu := rfl
@[simp] theorem State.raiseAll_lpe (s : State) (es : List Event) : (s.raiseAll es).lpe = s.lpe := rfl
@[simp] theorem State.raiseAll_gsq (s : State) (es : List Event) : (s.raiseAll es).gsq = s.gsq := rfl
@[simp] theorem State.raiseAll_lsv (s : State) (es : List Event) : (s.raiseAll es).lsv = s.lsv := rfl
@[simp] theorem State.raiseAll_eau (s : State) (es : List Event) : (s.raiseAll es).eau = s.eau := rfl
@[simp] theorem State.raiseAll_rdu (s : State) (es : List Event) : (s.raiseAll es).rdu = s.rdu := rfl
@[simp] theorem State.raiseAll_sdu (s : State) (es : List Event) : (s.raiseAll es).sdu = s.sdu := rfl
@[simp] theorem State.raiseAll_otu (s : State) (es : List Event) : (s.raiseAll es).otu = s.otu := rfl
@[simp] theorem State.raiseAll_replies (s : State) (es : List Event) : (s.raiseAll es).replies = s.replies := rfl
@[simp] theorem State.raiseAll_downstream (s : State) (es : List Event) : (s.raiseAll es).downstream = s.downstream := rfl
@[simp] theorem State.raiseAll_free (s : State) (es : List Event) : (s.raiseAll es).free = s.free := rfl
@[simp] theorem State.raiseAll_rgi (s : State) (es : List Event) : (s.raiseAll es).rgi = es.foldl enqueue s.rgi := rfl
@[simp] theorem State.raiseAll_nil (s : State) : s.raiseAll [] = s := rfl

/-! A value of one line replaced -/

@[simp] theorem PerLine.get_set_same {α : Type} (p : PerLine α) (l : Line) (x : α) : (p.set l x).get l = x := by
  cases l <;> rfl
theorem PerLine.get_set_other {α : Type} (p : PerLine α) {l m : Line} (h : m ≠ l) (x : α) :
    (p.set l x).get m = p.get m := by
  cases l <;> cases m <;> first | rfl | exact absurd rfl h

/-! The tables and the device state rest on the banks alone -/

theorem State.tables_eq (s : State) : s.tables = s.tbs.activeBank := rfl
theorem State.running_eq (s : State) : s.running = (s.tbs.device == .run) := rfl

end Machine
end Sys2Proof
end

