-- ==== Sys2Proof/Laws/Frames.lean ====
section
/-! SUPPORT. What each shared operation leaves as it was: the works of the blocks and the telegrams, field by field, and the
event queue as the one thing of the ring interface that a work changes. -/

namespace Sys2Proof
namespace Machine

/-! ## Raising events -/

/-- An event enters the queue, displaces the newest NORMAL event, or is discarded; nothing else changes (R189, R190). -/
theorem enqueue_cases (r : Rgi) (e : Event) :
    (queued r < 64 ∧ e.high = true ∧ enqueue r e = { r with high := r.high ++ [e] }) ∨
    (queued r < 64 ∧ e.high = false ∧ enqueue r e = { r with normal := r.normal ++ [e] }) ∨
    (64 ≤ queued r ∧ e.high = true ∧ r.normal ≠ [] ∧
      enqueue r e = { r with overflow := true, normal := r.normal.dropLast, high := r.high ++ [e] }) ∨
    (64 ≤ queued r ∧ (e.high = false ∨ r.normal = []) ∧ enqueue r e = { r with overflow := true }) := by
  unfold enqueue joinQueue
  rcases Nat.lt_or_ge (queued r) 64 with h | h
  · cases he : e.high <;> simp [h]
  · rw [if_neg (Nat.not_lt.mpr h)]
    cases he : e.high <;> by_cases hn : r.normal = [] <;> simp [h, hn]

@[simp] theorem enqueue_address (r : Rgi) (e : Event) : (enqueue r e).address = r.address := by
  rcases enqueue_cases r e with ⟨_, _, h⟩ | ⟨_, _, h⟩ | ⟨_, _, _, h⟩ | ⟨_, _, h⟩ <;> rw [h]
@[simp] theorem foldl_enqueue_address (es : List Event) (r : Rgi) : (es.foldl enqueue r).address = r.address := by
  induction es generalizing r with
  | nil => rfl
  | cons e es ih => simp [ih]
@[simp] theorem enqueue_ring (r : Rgi) (e : Event) : (enqueue r e).ring = r.ring := by
  rcases enqueue_cases r e with ⟨_, _, h⟩ | ⟨_, _, h⟩ | ⟨_, _, _, h⟩ | ⟨_, _, h⟩ <;> rw [h]
@[simp] theorem foldl_enqueue_ring (es : List Event) (r : Rgi) : (es.foldl enqueue r).ring = r.ring := by
  induction es generalizing r with
  | nil => rfl
  | cons e es ih => simp [ih]
@[simp] theorem enqueue_lastCycle (r : Rgi) (e : Event) : (enqueue r e).lastCycle = r.lastCycle := by
  rcases enqueue_cases r e with ⟨_, _, h⟩ | ⟨_, _, h⟩ | ⟨_, _, _, h⟩ | ⟨_, _, h⟩ <;> rw [h]
@[simp] theorem foldl_enqueue_lastCycle (es : List Event) (r : Rgi) : (es.foldl enqueue r).lastCycle = r.lastCycle := by
  induction es generalizing r with
  | nil => rfl
  | cons e es ih => simp [ih]
@[simp] theorem enqueue_plant (r : Rgi) (e : Event) : (enqueue r e).plant = r.plant := by
  rcases enqueue_cases r e with ⟨_, _, h⟩ | ⟨_, _, h⟩ | ⟨_, _, _, h⟩ | ⟨_, _, h⟩ <;> rw [h]
@[simp] theorem foldl_enqueue_plant (es : List Event) (r : Rgi) : (es.foldl enqueue r).plant = r.plant := by
  induction es generalizing r with
  | nil => rfl
  | cons e es ih => simp [ih]
@[simp] theorem enqueue_runTime (r : Rgi) (e : Event) : (enqueue r e).runTime = r.runTime := by
  rcases enqueue_cases r e with ⟨_, _, h⟩ | ⟨_, _, h⟩ | ⟨_, _, _, h⟩ | ⟨_, _, h⟩ <;> rw [h]
@[simp] theorem foldl_enqueue_runTime (es : List Event) (r : Rgi) : (es.foldl enqueue r).runTime = r.runTime := by
  induction es generalizing r with
  | nil => rfl
  | cons e es ih => simp [ih]
@[simp] theorem enqueue_advance (r : Rgi) (e : Event) : (enqueue r e).advance = r.advance := by
  rcases enqueue_cases r e with ⟨_, _, h⟩ | ⟨_, _, h⟩ | ⟨_, _, _, h⟩ | ⟨_, _, h⟩ <;> rw [h]
@[simp] theorem foldl_enqueue_advance (es : List Event) (r : Rgi) : (es.foldl enqueue r).advance = r.advance := by
  induction es generalizing r with
  | nil => rfl
  | cons e es ih => simp [ih]
@[simp] theorem enqueue_timer (r : Rgi) (e : Event) : (enqueue r e).timer = r.timer := by
  rcases enqueue_cases r e with ⟨_, _, h⟩ | ⟨_, _, h⟩ | ⟨_, _, _, h⟩ | ⟨_, _, h⟩ <;> rw [h]
@[simp] theorem foldl_enqueue_timer (es : List Event) (r : Rgi) : (es.foldl enqueue r).timer = r.timer := by
  induction es generalizing r with
  | nil => rfl
  | cons e es ih => simp [ih]
@[simp] theorem enqueue_restartPending (r : Rgi) (e : Event) : (enqueue r e).restartPending = r.restartPending := by
  rcases enqueue_cases r e with ⟨_, _, h⟩ | ⟨_, _, h⟩ | ⟨_, _, _, h⟩ | ⟨_, _, h⟩ <;> rw [h]
@[simp] theorem foldl_enqueue_restartPending (es : List Event) (r : Rgi) : (es.foldl enqueue r).restartPending = r.restartPending := by
  induction es generalizing r with
  | nil => rfl
  | cons e es ih => simp [ih]
@[simp] theorem enqueue_truncated (r : Rgi) (e : Event) : (enqueue r e).truncated = r.truncated := by
  rcases enqueue_cases r e with ⟨_, _, h⟩ | ⟨_, _, h⟩ | ⟨_, _, _, h⟩ | ⟨_, _, h⟩ <;> rw [h]
@[simp] theorem foldl_enqueue_truncated (es : List Event) (r : Rgi) : (es.foldl enqueue r).truncated = r.truncated := by
  induction es generalizing r with
  | nil => rfl
  | cons e es ih => simp [ih]
@[simp] theorem enqueue_resetCause (r : Rgi) (e : Event) : (enqueue r e).resetCause = r.resetCause := by
  rcases enqueue_cases r e with ⟨_, _, h⟩ | ⟨_, _, h⟩ | ⟨_, _, _, h⟩ | ⟨_, _, h⟩ <;> rw [h]
@[simp] theorem foldl_enqueue_resetCause (es : List Event) (r : Rgi) : (es.foldl enqueue r).resetCause = r.resetCause := by
  induction es generalizing r with
  | nil => rfl
  | cons e es ih => simp [ih]

/-! ## The works of the blocks -/

@[simp] theorem piuWork_pending (f : Nat → Option Slot) (s : State) : (piuWork f s).pending = s.pending := by
  unfold piuWork; split <;> simp only [State.raiseAll_pending, State.withPiu_pending]
@[simp] theorem piuWork_tbs (f : Nat → Option Slot) (s : State) : (piuWork f s).tbs = s.tbs := by
  unfold piuWork; split <;> simp only [State.raiseAll_tbs, State.withPiu_tbs]
@[simp] theorem piuWork_lpe (f : Nat → Option Slot) (s : State) : (piuWork f s).lpe = s.lpe := by
  unfold piuWork; split <;> simp only [State.raiseAll_lpe, State.withPiu_lpe]
@[simp] theorem piuWork_gsq (f : Nat → Option Slot) (s : State) : (piuWork f s).gsq = s.gsq := by
  unfold piuWork; split <;> simp only [State.raiseAll_gsq, State.withPiu_gsq]
@[simp] theorem piuWork_lsv (f : Nat → Option Slot) (s : State) : (piuWork f s).lsv = s.lsv := by
  unfold piuWork; split <;> simp only [State.raiseAll_lsv, State.withPiu_lsv]
@[simp] theorem piuWork_eau (f : Nat → Option Slot) (s : State) : (piuWork f s).eau = s.eau := by
  unfold piuWork; split <;> simp only [State.raiseAll_eau, State.withPiu_eau]
@[simp] theorem piuWork_rdu (f : Nat → Option Slot) (s : State) : (piuWork f s).rdu = s.rdu := by
  unfold piuWork; split <;> simp only [State.raiseAll_rdu, State.withPiu_rdu]
@[simp] theorem piuWork_sdu (f : Nat → Option Slot) (s : State) : (piuWork f s).sdu = s.sdu := by
  unfold piuWork; split <;> simp only [State.raiseAll_sdu, State.withPiu_sdu]
@[simp] theorem piuWork_otu (f : Nat → Option Slot) (s : State) : (piuWork f s).otu = s.otu := by
  unfold piuWork; split <;> simp only [State.raiseAll_otu, State.withPiu_otu]
@[simp] theorem piuWork_replies (f : Nat → Option Slot) (s : State) : (piuWork f s).replies = s.replies := by
  unfold piuWork; split <;> simp only [State.raiseAll_replies, State.withPiu_replies]
@[simp] theorem piuWork_downstream (f : Nat → Option Slot) (s : State) : (piuWork f s).downstream = s.downstream := by
  unfold piuWork; split <;> simp only [State.raiseAll_downstream, State.withPiu_downstream]
@[simp] theorem piuWork_free (f : Nat → Option Slot) (s : State) : (piuWork f s).free = s.free := by
  unfold piuWork; split <;> simp only [State.raiseAll_free, State.withPiu_free]
/-- All that a `piuWork` does to the ring interface is to raise events. -/
theorem piuWork_rgi (f : Nat → Option Slot) (s : State) : ∃ es : List Event, (piuWork f s).rgi = es.foldl enqueue s.rgi := by
  unfold piuWork; split
  · simp only [State.raiseAll_rgi, State.withPiu_rgi]; exact ⟨_, rfl⟩
  · exact ⟨[], rfl⟩

@[simp] theorem lpeWork_pending (s : State) : (lpeWork s).pending = s.pending := by
  unfold lpeWork; split <;> simp only [State.withLpe_pending]
@[simp] theorem lpeWork_tbs (s : State) : (lpeWork s).tbs = s.tbs := by
  unfold lpeWork; split <;> simp only [State.withLpe_tbs]
@[simp] theorem lpeWork_piu (s : State) : (lpeWork s).piu = s.piu := by
  unfold lpeWork; split <;> simp only [State.withLpe_piu]
@[simp] theorem lpeWork_gsq (s : State) : (lpeWork s).gsq = s.gsq := by
  unfold lpeWork; split <;> simp only [State.withLpe_gsq]
@[simp] theorem lpeWork_lsv (s : State) : (lpeWork s).lsv = s.lsv := by
  unfold lpeWork; split <;> simp only [State.withLpe_lsv]
@[simp] theorem lpeWork_eau (s : State) : (lpeWork s).eau = s.eau := by
  unfold lpeWork; split <;> simp only [State.withLpe_eau]
@[simp] theorem lpeWork_rdu (s : State) : (lpeWork s).rdu = s.rdu := by
  unfold lpeWork; split <;> simp only [State.withLpe_rdu]
@[simp] theorem lpeWork_sdu (s : State) : (lpeWork s).sdu = s.sdu := by
  unfold lpeWork; split <;> simp only [State.withLpe_sdu]
@[simp] theorem lpeWork_otu (s : State) : (lpeWork s).otu = s.otu := by
  unfold lpeWork; split <;> simp only [State.withLpe_otu]
@[simp] theorem lpeWork_replies (s : State) : (lpeWork s).replies = s.replies := by
  unfold lpeWork; split <;> simp only [State.withLpe_replies]
@[simp] theorem lpeWork_downstream (s : State) : (lpeWork s).downstream = s.downstream := by
  unfold lpeWork; split <;> simp only [State.withLpe_downstream]
@[simp] theorem lpeWork_free (s : State) : (lpeWork s).free = s.free := by
  unfold lpeWork; split <;> simp only [State.withLpe_free]
/-- All that a `lpeWork` does to the ring interface is to raise events. -/
theorem lpeWork_rgi (s : State) : ∃ es : List Event, (lpeWork s).rgi = es.foldl enqueue s.rgi := by
  unfold lpeWork; split <;> exact ⟨[], rfl⟩

@[simp] theorem gsqWork_pending (l : Line) (s : State) : (gsqWork l s).pending = s.pending := by
  unfold gsqWork; split <;> simp only [State.withSeqResult, State.raiseAll_pending, State.withGsq_pending]
@[simp] theorem gsqWork_tbs (l : Line) (s : State) : (gsqWork l s).tbs = s.tbs := by
  unfold gsqWork; split <;> simp only [State.withSeqResult, State.raiseAll_tbs, State.withGsq_tbs]
@[simp] theorem gsqWork_piu (l : Line) (s : State) : (gsqWork l s).piu = s.piu := by
  unfold gsqWork; split <;> simp only [State.withSeqResult, State.raiseAll_piu, State.withGsq_piu]
@[simp] theorem gsqWork_lpe (l : Line) (s : State) : (gsqWork l s).lpe = s.lpe := by
  unfold gsqWork; split <;> simp only [State.withSeqResult, State.raiseAll_lpe, State.withGsq_lpe]
@[simp] theorem gsqWork_lsv (l : Line) (s : State) : (gsqWork l s).lsv = s.lsv := by
  unfold gsqWork; split <;> simp only [State.withSeqResult, State.raiseAll_lsv, State.withGsq_lsv]
@[simp] theorem gsqWork_eau (l : Line) (s : State) : (gsqWork l s).eau = s.eau := by
  unfold gsqWork; split <;> simp only [State.withSeqResult, State.raiseAll_eau, State.withGsq_eau]
@[simp] theorem gsqWork_rdu (l : Line) (s : State) : (gsqWork l s).rdu = s.rdu := by
  unfold gsqWork; split <;> simp only [State.withSeqResult, State.raiseAll_rdu, State.withGsq_rdu]
@[simp] theorem gsqWork_sdu (l : Line) (s : State) : (gsqWork l s).sdu = s.sdu := by
  unfold gsqWork; split <;> simp only [State.withSeqResult, State.raiseAll_sdu, State.withGsq_sdu]
@[simp] theorem gsqWork_otu (l : Line) (s : State) : (gsqWork l s).otu = s.otu := by
  unfold gsqWork; split <;> simp only [State.withSeqResult, State.raiseAll_otu, State.withGsq_otu]
@[simp] theorem gsqWork_replies (l : Line) (s : State) : (gsqWork l s).replies = s.replies := by
  unfold gsqWork; split <;> simp only [State.withSeqResult, State.raiseAll_replies, State.withGsq_replies]
@[simp] theorem gsqWork_downstream (l : Line) (s : State) : (gsqWork l s).downstream = s.downstream := by
  unfold gsqWork; split <;> simp only [State.withSeqResult, State.raiseAll_downstream, State.withGsq_downstream]
@[simp] theorem gsqWork_free (l : Line) (s : State) : (gsqWork l s).free = s.free := by
  unfold gsqWork; split <;> simp only [State.withSeqResult, State.raiseAll_free, State.withGsq_free]
/-- All that a `gsqWork` does to the ring interface is to raise events. -/
theorem gsqWork_rgi (l : Line) (s : State) : ∃ es : List Event, (gsqWork l s).rgi = es.foldl enqueue s.rgi := by
  unfold gsqWork; split
  · simp only [State.withSeqResult, State.raiseAll_rgi, State.withGsq_rgi]; exact ⟨_, rfl⟩
  · exact ⟨[], rfl⟩

@[simp] theorem lsvWork_pending (l : Line) (s : State) : (lsvWork l s).pending = s.pending := by
  unfold lsvWork; split <;> simp only [State.raiseAll_pending, State.withLsv_pending]
@[simp] theorem lsvWork_tbs (l : Line) (s : State) : (lsvWork l s).tbs = s.tbs := by
  unfold lsvWork; split <;> simp only [State.raiseAll_tbs, State.withLsv_tbs]
@[simp] theorem lsvWork_piu (l : Line) (s : State) : (lsvWork l s).piu = s.piu := by
  unfold lsvWork; split <;> simp only [State.raiseAll_piu, State.withLsv_piu]
@[simp] theorem lsvWork_lpe (l : Line) (s : State) : (lsvWork l s).lpe = s.lpe := by
  unfold lsvWork; split <;> simp only [State.raiseAll_lpe, State.withLsv_lpe]
@[simp] theorem lsvWork_gsq (l : Line) (s : State) : (lsvWork l s).gsq = s.gsq := by
  unfold lsvWork; split <;> simp only [State.raiseAll_gsq, State.withLsv_gsq]
@[simp] theorem lsvWork_eau (l : Line) (s : State) : (lsvWork l s).eau = s.eau := by
  unfold lsvWork; split <;> simp only [State.raiseAll_eau, State.withLsv_eau]
@[simp] theorem lsvWork_rdu (l : Line) (s : State) : (lsvWork l s).rdu = s.rdu := by
  unfold lsvWork; split <;> simp only [State.raiseAll_rdu, State.withLsv_rdu]
@[simp] theorem lsvWork_sdu (l : Line) (s : State) : (lsvWork l s).sdu = s.sdu := by
  unfold lsvWork; split <;> simp only [State.raiseAll_sdu, State.withLsv_sdu]
@[simp] theorem lsvWork_otu (l : Line) (s : State) : (lsvWork l s).otu = s.otu := by
  unfold lsvWork; split <;> simp only [State.raiseAll_otu, State.withLsv_otu]
@[simp] theorem lsvWork_replies (l : Line) (s : State) : (lsvWork l s).replies = s.replies := by
  unfold lsvWork; split <;> simp only [State.raiseAll_replies, State.withLsv_replies]
@[simp] theorem lsvWork_downstream (l : Line) (s : State) : (lsvWork l s).downstream = s.downstream := by
  unfold lsvWork; split <;> simp only [State.raiseAll_downstream, State.withLsv_downstream]
@[simp] theorem lsvWork_free (l : Line) (s : State) : (lsvWork l s).free = s.free := by
  unfold lsvWork; split <;> simp only [State.raiseAll_free, State.withLsv_free]
/-- All that a `lsvWork` does to the ring interface is to raise events. -/
theorem lsvWork_rgi (l : Line) (s : State) : ∃ es : List Event, (lsvWork l s).rgi = es.foldl enqueue s.rgi := by
  unfold lsvWork; split
  · simp only [State.raiseAll_rgi, State.withLsv_rgi]; exact ⟨_, rfl⟩
  · exact ⟨[], rfl⟩

@[simp] theorem eauWork_pending (s : State) : (eauWork s).pending = s.pending := by
  unfold eauWork; split <;> simp only [publishEmissions, sampleBoth, placeFrame, State.raiseAll_pending, State.withEau_pending]
@[simp] theorem eauWork_tbs (s : State) : (eauWork s).tbs = s.tbs := by
  unfold eauWork; split <;> simp only [publishEmissions, sampleBoth, placeFrame, State.raiseAll_tbs, State.withEau_tbs]
@[simp] theorem eauWork_piu (s : State) : (eauWork s).piu = s.piu := by
  unfold eauWork; split <;> simp only [publishEmissions, sampleBoth, placeFrame, State.raiseAll_piu, State.withEau_piu]
@[simp] theorem eauWork_lpe (s : State) : (eauWork s).lpe = s.lpe := by
  unfold eauWork; split <;> simp only [publishEmissions, sampleBoth, placeFrame, State.raiseAll_lpe, State.withEau_lpe]
@[simp] theorem eauWork_gsq (s : State) : (eauWork s).gsq = s.gsq := by
  unfold eauWork; split <;> simp only [publishEmissions, sampleBoth, placeFrame, State.raiseAll_gsq, State.withEau_gsq]
@[simp] theorem eauWork_lsv (s : State) : (eauWork s).lsv = s.lsv := by
  unfold eauWork; split <;> simp only [publishEmissions, sampleBoth, placeFrame, State.raiseAll_lsv, State.withEau_lsv]
@[simp] theorem eauWork_rdu (s : State) : (eauWork s).rdu = s.rdu := by
  unfold eauWork; split <;> simp only [publishEmissions, sampleBoth, placeFrame, State.raiseAll_rdu, State.withEau_rdu]
@[simp] theorem eauWork_sdu (s : State) : (eauWork s).sdu = s.sdu := by
  unfold eauWork; split <;> simp only [publishEmissions, sampleBoth, placeFrame, State.raiseAll_sdu, State.withEau_sdu]
@[simp] theorem eauWork_otu (s : State) : (eauWork s).otu = s.otu := by
  unfold eauWork; split <;> simp only [publishEmissions, sampleBoth, placeFrame, State.raiseAll_otu, State.withEau_otu]
@[simp] theorem eauWork_replies (s : State) : (eauWork s).replies = s.replies := by
  unfold eauWork; split <;> simp only [publishEmissions, sampleBoth, placeFrame, State.raiseAll_replies, State.withEau_replies]
@[simp] theorem eauWork_downstream (s : State) : (eauWork s).downstream = s.downstream := by
  unfold eauWork; split <;> simp only [publishEmissions, sampleBoth, placeFrame, State.raiseAll_downstream, State.withEau_downstream]
@[simp] theorem eauWork_free (s : State) : (eauWork s).free = s.free := by
  unfold eauWork; split <;> simp only [publishEmissions, sampleBoth, placeFrame, State.raiseAll_free, State.withEau_free]
/-- All that a `eauWork` does to the ring interface is to raise events. -/
theorem eauWork_rgi (s : State) : ∃ es : List Event, (eauWork s).rgi = es.foldl enqueue s.rgi := by
  unfold eauWork; split
  · simp only [publishEmissions, sampleBoth, placeFrame, State.raiseAll_rgi, State.withEau_rgi]; exact ⟨_, rfl⟩
  · exact ⟨[], rfl⟩

@[simp] theorem rduWork_pending (s : State) : (rduWork s).pending = s.pending := by
  unfold rduWork; split <;> simp only [State.raiseAll_pending, State.withRdu_pending]
@[simp] theorem rduWork_tbs (s : State) : (rduWork s).tbs = s.tbs := by
  unfold rduWork; split <;> simp only [State.raiseAll_tbs, State.withRdu_tbs]
@[simp] theorem rduWork_piu (s : State) : (rduWork s).piu = s.piu := by
  unfold rduWork; split <;> simp only [State.raiseAll_piu, State.withRdu_piu]
@[simp] theorem rduWork_lpe (s : State) : (rduWork s).lpe = s.lpe := by
  unfold rduWork; split <;> simp only [State.raiseAll_lpe, State.withRdu_lpe]
@[simp] theorem rduWork_gsq (s : State) : (rduWork s).gsq = s.gsq := by
  unfold rduWork; split <;> simp only [State.raiseAll_gsq, State.withRdu_gsq]
@[simp] theorem rduWork_lsv (s : State) : (rduWork s).lsv = s.lsv := by
  unfold rduWork; split <;> simp only [State.raiseAll_lsv, State.withRdu_lsv]
@[simp] theorem rduWork_eau (s : State) : (rduWork s).eau = s.eau := by
  unfold rduWork; split <;> simp only [State.raiseAll_eau, State.withRdu_eau]
@[simp] theorem rduWork_sdu (s : State) : (rduWork s).sdu = s.sdu := by
  unfold rduWork; split <;> simp only [State.raiseAll_sdu, State.withRdu_sdu]
@[simp] theorem rduWork_otu (s : State) : (rduWork s).otu = s.otu := by
  unfold rduWork; split <;> simp only [State.raiseAll_otu, State.withRdu_otu]
@[simp] theorem rduWork_replies (s : State) : (rduWork s).replies = s.replies := by
  unfold rduWork; split <;> simp only [State.raiseAll_replies, State.withRdu_replies]
@[simp] theorem rduWork_downstream (s : State) : (rduWork s).downstream = s.downstream := by
  unfold rduWork; split <;> simp only [State.raiseAll_downstream, State.withRdu_downstream]
@[simp] theorem rduWork_free (s : State) : (rduWork s).free = s.free := by
  unfold rduWork; split <;> simp only [State.raiseAll_free, State.withRdu_free]
/-- All that a `rduWork` does to the ring interface is to raise events. -/
theorem rduWork_rgi (s : State) : ∃ es : List Event, (rduWork s).rgi = es.foldl enqueue s.rgi := by
  unfold rduWork; split
  · simp only [State.raiseAll_rgi, State.withRdu_rgi]; exact ⟨_, rfl⟩
  · exact ⟨[], rfl⟩

@[simp] theorem sduWork_pending (s : State) : (sduWork s).pending = s.pending := by
  unfold sduWork; split <;> simp only [State.raiseAll_pending, State.withSdu_pending]
@[simp] theorem sduWork_tbs (s : State) : (sduWork s).tbs = s.tbs := by
  unfold sduWork; split <;> simp only [State.raiseAll_tbs, State.withSdu_tbs]
@[simp] theorem sduWork_piu (s : State) : (sduWork s).piu = s.piu := by
  unfold sduWork; split <;> simp only [State.raiseAll_piu, State.withSdu_piu]
@[simp] theorem sduWork_lpe (s : State) : (sduWork s).lpe = s.lpe := by
  unfold sduWork; split <;> simp only [State.raiseAll_lpe, State.withSdu_lpe]
@[simp] theorem sduWork_gsq (s : State) : (sduWork s).gsq = s.gsq := by
  unfold sduWork; split <;> simp only [State.raiseAll_gsq, State.withSdu_gsq]
@[simp] theorem sduWork_lsv (s : State) : (sduWork s).lsv = s.lsv := by
  unfold sduWork; split <;> simp only [State.raiseAll_lsv, State.withSdu_lsv]
@[simp] theorem sduWork_eau (s : State) : (sduWork s).eau = s.eau := by
  unfold sduWork; split <;> simp only [State.raiseAll_eau, State.withSdu_eau]
@[simp] theorem sduWork_rdu (s : State) : (sduWork s).rdu = s.rdu := by
  unfold sduWork; split <;> simp only [State.raiseAll_rdu, State.withSdu_rdu]
@[simp] theorem sduWork_otu (s : State) : (sduWork s).otu = s.otu := by
  unfold sduWork; split <;> simp only [State.raiseAll_otu, State.withSdu_otu]
@[simp] theorem sduWork_replies (s : State) : (sduWork s).replies = s.replies := by
  unfold sduWork; split <;> simp only [State.raiseAll_replies, State.withSdu_replies]
@[simp] theorem sduWork_downstream (s : State) : (sduWork s).downstream = s.downstream := by
  unfold sduWork; split <;> simp only [State.raiseAll_downstream, State.withSdu_downstream]
@[simp] theorem sduWork_free (s : State) : (sduWork s).free = s.free := by
  unfold sduWork; split <;> simp only [State.raiseAll_free, State.withSdu_free]
/-- All that a `sduWork` does to the ring interface is to raise events. -/
theorem sduWork_rgi (s : State) : ∃ es : List Event, (sduWork s).rgi = es.foldl enqueue s.rgi := by
  unfold sduWork; split
  · simp only [State.raiseAll_rgi, State.withSdu_rgi]; exact ⟨_, rfl⟩
  · exact ⟨[], rfl⟩

@[simp] theorem otuWork_pending (s : State) : (otuWork s).pending = s.pending := by
  unfold otuWork; split <;> simp only [sduTakeGroups, evaluateTrips, State.raiseAll_pending, State.withOtu_pending, State.withSdu_pending]
@[simp] theorem otuWork_tbs (s : State) : (otuWork s).tbs = s.tbs := by
  unfold otuWork; split <;> simp only [sduTakeGroups, evaluateTrips, State.raiseAll_tbs, State.withOtu_tbs, State.withSdu_tbs]
@[simp] theorem otuWork_piu (s : State) : (otuWork s).piu = s.piu := by
  unfold otuWork; split <;> simp only [sduTakeGroups, evaluateTrips, State.raiseAll_piu, State.withOtu_piu, State.withSdu_piu]
@[simp] theorem otuWork_lpe (s : State) : (otuWork s).lpe = s.lpe := by
  unfold otuWork; split <;> simp only [sduTakeGroups, evaluateTrips, State.raiseAll_lpe, State.withOtu_lpe, State.withSdu_lpe]
@[simp] theorem otuWork_gsq (s : State) : (otuWork s).gsq = s.gsq := by
  unfold otuWork; split <;> simp only [sduTakeGroups, evaluateTrips, State.raiseAll_gsq, State.withOtu_gsq, State.withSdu_gsq]
@[simp] theorem otuWork_lsv (s : State) : (otuWork s).lsv = s.lsv := by
  unfold otuWork; split <;> simp only [sduTakeGroups, evaluateTrips, State.raiseAll_lsv, State.withOtu_lsv, State.withSdu_lsv]
@[simp] theorem otuWork_eau (s : State) : (otuWork s).eau = s.eau := by
  unfold otuWork; split <;> simp only [sduTakeGroups, evaluateTrips, State.raiseAll_eau, State.withOtu_eau, State.withSdu_eau]
@[simp] theorem otuWork_rdu (s : State) : (otuWork s).rdu = s.rdu := by
  unfold otuWork; split <;> simp only [sduTakeGroups, evaluateTrips, State.raiseAll_rdu, State.withOtu_rdu, State.withSdu_rdu]
@[simp] theorem otuWork_replies (s : State) : (otuWork s).replies = s.replies := by
  unfold otuWork; split <;> simp only [sduTakeGroups, evaluateTrips, State.raiseAll_replies, State.withOtu_replies, State.withSdu_replies]
@[simp] theorem otuWork_downstream (s : State) : (otuWork s).downstream = s.downstream := by
  unfold otuWork; split <;> simp only [sduTakeGroups, evaluateTrips, State.raiseAll_downstream, State.withOtu_downstream, State.withSdu_downstream]
@[simp] theorem otuWork_free (s : State) : (otuWork s).free = s.free := by
  unfold otuWork; split <;> simp only [sduTakeGroups, evaluateTrips, State.raiseAll_free, State.withOtu_free, State.withSdu_free]
/-- All that a `otuWork` does to the ring interface is to raise events. -/
theorem otuWork_rgi (s : State) : ∃ es : List Event, (otuWork s).rgi = es.foldl enqueue s.rgi := by
  unfold otuWork; split
  · simp only [sduTakeGroups, evaluateTrips, State.raiseAll_rgi, State.withOtu_rgi, State.withSdu_rgi]; exact ⟨_, rfl⟩
  · exact ⟨[], rfl⟩

/-! ## The telegrams -/

/-- What `takeTableOpen` leaves as it was. -/
theorem takeTableOpen_frame (s : State) :
    (takeTableOpen s).1.pending = s.pending ∧ (takeTableOpen s).1.rgi = s.rgi ∧ (takeTableOpen s).1.piu = s.piu ∧
      (takeTableOpen s).1.lpe = s.lpe ∧ (takeTableOpen s).1.gsq = s.gsq ∧ (takeTableOpen s).1.lsv = s.lsv ∧
      (takeTableOpen s).1.eau = s.eau ∧ (takeTableOpen s).1.rdu = s.rdu ∧ (takeTableOpen s).1.sdu = s.sdu ∧
      (takeTableOpen s).1.otu = s.otu ∧ (takeTableOpen s).1.replies = s.replies ∧
      (takeTableOpen s).1.downstream = s.downstream ∧ (takeTableOpen s).1.free = s.free := by
  unfold takeTableOpen
  (repeat' first | split | dsimp only) <;> exact ⟨rfl, rfl, rfl, rfl, rfl, rfl, rfl, rfl, rfl, rfl, rfl, rfl, rfl⟩

/-- What `takeTableWrite` leaves as it was. -/
theorem takeTableWrite_frame (a b : Byte) (e : List Byte) (s : State) :
    (takeTableWrite a b e s).1.pending = s.pending ∧ (takeTableWrite a b e s).1.rgi = s.rgi ∧
      (takeTableWrite a b e s).1.piu = s.piu ∧ (takeTableWrite a b e s).1.lpe = s.lpe ∧
      (takeTableWrite a b e s).1.gsq = s.gsq ∧ (takeTableWrite a b e s).1.lsv = s.lsv ∧
      (takeTableWrite a b e s).1.eau = s.eau ∧ (takeTableWrite a b e s).1.rdu = s.rdu ∧
      (takeTableWrite a b e s).1.sdu = s.sdu ∧ (takeTableWrite a b e s).1.otu = s.otu ∧
      (takeTableWrite a b e s).1.replies = s.replies ∧ (takeTableWrite a b e s).1.downstream = s.downstream ∧
      (takeTableWrite a b e s).1.free = s.free := by
  unfold takeTableWrite
  (repeat' first | split | dsimp only) <;> exact ⟨rfl, rfl, rfl, rfl, rfl, rfl, rfl, rfl, rfl, rfl, rfl, rfl, rfl⟩

/-- `takeTableRead` changes nothing. -/
@[simp] theorem takeTableRead_state (a b c : Byte) (s : State) : (takeTableRead a b c s).1 = s := by
  unfold takeTableRead; (repeat' split) <;> rfl

/-- What `takeTableCommit` leaves as it was. -/
theorem takeTableCommit_frame (e : Half) (s : State) :
    (takeTableCommit e s).1.pending = s.pending ∧ (takeTableCommit e s).1.rgi = s.rgi ∧
      (takeTableCommit e s).1.piu = s.piu ∧ (takeTableCommit e s).1.lpe = s.lpe ∧
      (takeTableCommit e s).1.gsq = s.gsq ∧ (takeTableCommit e s).1.lsv = s.lsv ∧
      (takeTableCommit e s).1.eau = s.eau ∧ (takeTableCommit e s).1.rdu = s.rdu ∧
      (takeTableCommit e s).1.sdu = s.sdu ∧ (takeTableCommit e s).1.otu = s.otu ∧
      (takeTableCommit e s).1.replies = s.replies ∧ (takeTableCommit e s).1.downstream = s.downstream ∧
      (takeTableCommit e s).1.free = s.free := by
  unfold takeTableCommit
  (repeat' first | split | dsimp only) <;> exact ⟨rfl, rfl, rfl, rfl, rfl, rfl, rfl, rfl, rfl, rfl, rfl, rfl, rfl⟩

/-- What `takeTableAbandon` leaves as it was. -/
theorem takeTableAbandon_frame (s : State) :
    (takeTableAbandon s).1.pending = s.pending ∧ (takeTableAbandon s).1.rgi = s.rgi ∧
      (takeTableAbandon s).1.piu = s.piu ∧ (takeTableAbandon s).1.lpe = s.lpe ∧
      (takeTableAbandon s).1.gsq = s.gsq ∧ (takeTableAbandon s).1.lsv = s.lsv ∧
      (takeTableAbandon s).1.eau = s.eau ∧ (takeTableAbandon s).1.rdu = s.rdu ∧
      (takeTableAbandon s).1.sdu = s.sdu ∧ (takeTableAbandon s).1.otu = s.otu ∧
      (takeTableAbandon s).1.replies = s.replies ∧ (takeTableAbandon s).1.downstream = s.downstream ∧
      (takeTableAbandon s).1.free = s.free := by
  unfold takeTableAbandon
  (repeat' first | split | dsimp only) <;> exact ⟨rfl, rfl, rfl, rfl, rfl, rfl, rfl, rfl, rfl, rfl, rfl, rfl, rfl⟩

/-- What `takeBankSwap` leaves as it was. -/
theorem takeBankSwap_frame (s : State) :
    (takeBankSwap s).1.pending = s.pending ∧ (takeBankSwap s).1.rgi = s.rgi ∧ (takeBankSwap s).1.piu = s.piu ∧
      (takeBankSwap s).1.lpe = s.lpe ∧ (takeBankSwap s).1.gsq = s.gsq ∧ (takeBankSwap s).1.lsv = s.lsv ∧
      (takeBankSwap s).1.eau = s.eau ∧ (takeBankSwap s).1.rdu = s.rdu ∧ (takeBankSwap s).1.sdu = s.sdu ∧
      (takeBankSwap s).1.otu = s.otu ∧ (takeBankSwap s).1.replies = s.replies ∧
      (takeBankSwap s).1.downstream = s.downstream ∧ (takeBankSwap s).1.free = s.free := by
  unfold takeBankSwap
  (repeat' first | split | dsimp only) <;> exact ⟨rfl, rfl, rfl, rfl, rfl, rfl, rfl, rfl, rfl, rfl, rfl, rfl, rfl⟩

/-- `takePointRead` changes nothing. -/
@[simp] theorem takePointRead_state (a b : Half) (s : State) : (takePointRead a b s).1 = s := by
  unfold takePointRead; (repeat' split) <;> rfl

/-- What `takePointForce` leaves as it was. -/
theorem takePointForce_frame (p : Half) (v : Word) (s : State) :
    (takePointForce p v s).1.pending = s.pending ∧ (takePointForce p v s).1.rgi = s.rgi ∧
      (takePointForce p v s).1.tbs = s.tbs ∧ (takePointForce p v s).1.lpe = s.lpe ∧
      (takePointForce p v s).1.gsq = s.gsq ∧ (takePointForce p v s).1.lsv = s.lsv ∧
      (takePointForce p v s).1.eau = s.eau ∧ (takePointForce p v s).1.rdu = s.rdu ∧
      (takePointForce p v s).1.sdu = s.sdu ∧ (takePointForce p v s).1.otu = s.otu ∧
      (takePointForce p v s).1.replies = s.replies ∧ (takePointForce p v s).1.downstream = s.downstream ∧
      (takePointForce p v s).1.free = s.free := by
  unfold takePointForce
  (repeat' first | split | dsimp only) <;> exact ⟨rfl, rfl, rfl, rfl, rfl, rfl, rfl, rfl, rfl, rfl, rfl, rfl, rfl⟩

/-- What `takePointRelease` leaves as it was. -/
theorem takePointRelease_frame (p : Half) (s : State) :
    (takePointRelease p s).1.pending = s.pending ∧ (takePointRelease p s).1.rgi = s.rgi ∧
      (takePointRelease p s).1.tbs = s.tbs ∧ (takePointRelease p s).1.lpe = s.lpe ∧
      (takePointRelease p s).1.gsq = s.gsq ∧ (takePointRelease p s).1.lsv = s.lsv ∧
      (takePointRelease p s).1.eau = s.eau ∧ (takePointRelease p s).1.rdu = s.rdu ∧
      (takePointRelease p s).1.sdu = s.sdu ∧ (takePointRelease p s).1.otu = s.otu ∧
      (takePointRelease p s).1.replies = s.replies ∧ (takePointRelease p s).1.downstream = s.downstream ∧
      (takePointRelease p s).1.free = s.free := by
  unfold takePointRelease
  (repeat' first | split | dsimp only) <;> exact ⟨rfl, rfl, rfl, rfl, rfl, rfl, rfl, rfl, rfl, rfl, rfl, rfl, rfl⟩

/-- What `takeLoopManual` leaves as it was. -/
theorem takeLoopManual_frame (a : Byte) (v : Half) (s : State) :
    (takeLoopManual a v s).1.pending = s.pending ∧ (takeLoopManual a v s).1.rgi = s.rgi ∧
      (takeLoopManual a v s).1.tbs = s.tbs ∧ (takeLoopManual a v s).1.piu = s.piu ∧
      (takeLoopManual a v s).1.gsq = s.gsq ∧ (takeLoopManual a v s).1.lsv = s.lsv ∧
      (takeLoopManual a v s).1.eau = s.eau ∧ (takeLoopManual a v s).1.rdu = s.rdu ∧
      (takeLoopManual a v s).1.sdu = s.sdu ∧ (takeLoopManual a v s).1.otu = s.otu ∧
      (takeLoopManual a v s).1.replies = s.replies ∧ (takeLoopManual a v s).1.downstream = s.downstream ∧
      (takeLoopManual a v s).1.free = s.free := by
  unfold takeLoopManual
  (repeat' first | split | dsimp only) <;> exact ⟨rfl, rfl, rfl, rfl, rfl, rfl, rfl, rfl, rfl, rfl, rfl, rfl, rfl⟩

/-- What `takeLoopAuto` leaves as it was. -/
theorem takeLoopAuto_frame (a : Byte) (s : State) :
    (takeLoopAuto a s).1.pending = s.pending ∧ (takeLoopAuto a s).1.rgi = s.rgi ∧
      (takeLoopAuto a s).1.tbs = s.tbs ∧ (takeLoopAuto a s).1.piu = s.piu ∧ (takeLoopAuto a s).1.gsq = s.gsq ∧
      (takeLoopAuto a s).1.lsv = s.lsv ∧ (takeLoopAuto a s).1.eau = s.eau ∧ (takeLoopAuto a s).1.rdu = s.rdu ∧
      (takeLoopAuto a s).1.sdu = s.sdu ∧ (takeLoopAuto a s).1.otu = s.otu ∧
      (takeLoopAuto a s).1.replies = s.replies ∧ (takeLoopAuto a s).1.downstream = s.downstream ∧
      (takeLoopAuto a s).1.free = s.free := by
  unfold takeLoopAuto
  (repeat' first | split | dsimp only) <;> exact ⟨rfl, rfl, rfl, rfl, rfl, rfl, rfl, rfl, rfl, rfl, rfl, rfl, rfl⟩

/-- What a body of a LINE_COMMAND leaves as it was. -/
theorem lineStart_frame (l : Line) (s : State) :
    ((lineStart l s).1).pending = s.pending ∧ ((lineStart l s).1).tbs = s.tbs ∧ ((lineStart l s).1).piu = s.piu ∧
      ((lineStart l s).1).lpe = s.lpe ∧ ((lineStart l s).1).rdu = s.rdu ∧ ((lineStart l s).1).sdu = s.sdu ∧
      ((lineStart l s).1).otu = s.otu ∧ ((lineStart l s).1).replies = s.replies ∧
      ((lineStart l s).1).downstream = s.downstream ∧ ((lineStart l s).1).free = s.free := by
  unfold lineStart; split <;> exact ⟨rfl, rfl, rfl, rfl, rfl, rfl, rfl, rfl, rfl, rfl⟩
theorem lineFeedOn_frame (l : Line) (s : State) :
    ((lineFeedOn l s).1).pending = s.pending ∧ ((lineFeedOn l s).1).tbs = s.tbs ∧
      ((lineFeedOn l s).1).piu = s.piu ∧ ((lineFeedOn l s).1).lpe = s.lpe ∧ ((lineFeedOn l s).1).rdu = s.rdu ∧
      ((lineFeedOn l s).1).sdu = s.sdu ∧ ((lineFeedOn l s).1).otu = s.otu ∧
      ((lineFeedOn l s).1).replies = s.replies ∧ ((lineFeedOn l s).1).downstream = s.downstream ∧
      ((lineFeedOn l s).1).free = s.free := by
  unfold lineFeedOn; (repeat' split) <;> exact ⟨rfl, rfl, rfl, rfl, rfl, rfl, rfl, rfl, rfl, rfl⟩
theorem lineFeedOff_frame (l : Line) (s : State) :
    ((lineFeedOff l s).1).pending = s.pending ∧ ((lineFeedOff l s).1).tbs = s.tbs ∧
      ((lineFeedOff l s).1).piu = s.piu ∧ ((lineFeedOff l s).1).lpe = s.lpe ∧ ((lineFeedOff l s).1).rdu = s.rdu ∧
      ((lineFeedOff l s).1).sdu = s.sdu ∧ ((lineFeedOff l s).1).otu = s.otu ∧
      ((lineFeedOff l s).1).replies = s.replies ∧ ((lineFeedOff l s).1).downstream = s.downstream ∧
      ((lineFeedOff l s).1).free = s.free := by
  unfold lineFeedOff; split <;> exact ⟨rfl, rfl, rfl, rfl, rfl, rfl, rfl, rfl, rfl, rfl⟩
theorem lineStop_frame (l : Line) (s : State) :
    ((lineStop l s).1).pending = s.pending ∧ ((lineStop l s).1).tbs = s.tbs ∧ ((lineStop l s).1).piu = s.piu ∧
      ((lineStop l s).1).lpe = s.lpe ∧ ((lineStop l s).1).rdu = s.rdu ∧ ((lineStop l s).1).sdu = s.sdu ∧
      ((lineStop l s).1).otu = s.otu ∧ ((lineStop l s).1).replies = s.replies ∧
      ((lineStop l s).1).downstream = s.downstream ∧ ((lineStop l s).1).free = s.free := by
  unfold lineStop; split <;> exact ⟨rfl, rfl, rfl, rfl, rfl, rfl, rfl, rfl, rfl, rfl⟩
theorem lineReset_frame (l : Line) (s : State) :
    ((lineReset l s).1).pending = s.pending ∧ ((lineReset l s).1).tbs = s.tbs ∧ ((lineReset l s).1).piu = s.piu ∧
      ((lineReset l s).1).lpe = s.lpe ∧ ((lineReset l s).1).rdu = s.rdu ∧ ((lineReset l s).1).sdu = s.sdu ∧
      ((lineReset l s).1).otu = s.otu ∧ ((lineReset l s).1).replies = s.replies ∧
      ((lineReset l s).1).downstream = s.downstream ∧ ((lineReset l s).1).free = s.free := by
  unfold lineReset resetEmissionStop; (repeat' first | split | dsimp only) <;> exact ⟨rfl, rfl, rfl, rfl, rfl, rfl, rfl, rfl, rfl, rfl⟩
theorem takeResetFeederOf_frame (l : Line) (s : State) :
    ((takeResetFeederOf l s).1).pending = s.pending ∧ ((takeResetFeederOf l s).1).tbs = s.tbs ∧
      ((takeResetFeederOf l s).1).piu = s.piu ∧ ((takeResetFeederOf l s).1).lpe = s.lpe ∧
      ((takeResetFeederOf l s).1).rdu = s.rdu ∧ ((takeResetFeederOf l s).1).sdu = s.sdu ∧
      ((takeResetFeederOf l s).1).otu = s.otu ∧ ((takeResetFeederOf l s).1).replies = s.replies ∧
      ((takeResetFeederOf l s).1).downstream = s.downstream ∧ ((takeResetFeederOf l s).1).free = s.free := by
  unfold takeResetFeederOf; (repeat' split) <;> exact ⟨rfl, rfl, rfl, rfl, rfl, rfl, rfl, rfl, rfl, rfl⟩

/-- A LINE_COMMAND answered by a body leaves as it was what the body leaves. -/
theorem onLine_state (line : Byte) (body : Line → State → LineAnswer) (s : State) :
    (onLine line body s).1 = s ∨ ∃ l, lineOf line = some l ∧ (onLine line body s).1 = (body l s).1 := by
  unfold onLine
  cases h : lineOf line with
  | none => exact .inl rfl
  | some l => exact .inr ⟨l, rfl, rfl⟩
theorem inRun_state (body : Line → State → LineAnswer) (l : Line) (s : State) :
    (inRun body l s).1 = s ∨ (s.running = true ∧ (inRun body l s).1 = (body l s).1) := by
  unfold inRun
  cases h : s.running
  · exact .inl rfl
  · exact .inr ⟨rfl, rfl⟩

/-- A LINE_COMMAND changes nothing, or does what one of its six bodies does to the line it names. -/
theorem takeLineCommand_cases (line kind : Byte) (s : State) :
    (takeLineCommand line kind s).1 = s ∨
    ∃ l, lineOf line = some l ∧
      ((s.running = true ∧
          ((takeLineCommand line kind s).1 = (lineStart l s).1 ∨ (takeLineCommand line kind s).1 = (lineFeedOn l s).1 ∨
            (takeLineCommand line kind s).1 = (lineFeedOff l s).1 ∨ (takeLineCommand line kind s).1 = (lineStop l s).1 ∨
            (takeLineCommand line kind s).1 = (lineReset l s).1)) ∨
        (takeLineCommand line kind s).1 = (takeResetFeederOf l s).1) := by
  have run (body : Line → State → LineAnswer) :
      (onLine line (inRun body) s).1 = s ∨
        ∃ l, lineOf line = some l ∧ s.running = true ∧ (onLine line (inRun body) s).1 = (body l s).1 := by
    rcases onLine_state line (inRun body) s with h | ⟨l, hl, h⟩
    · exact .inl h
    · rcases inRun_state body l s with hr | ⟨hr, hb⟩
      · exact .inl (h.trans hr)
      · exact .inr ⟨l, hl, hr, h.trans hb⟩
  unfold takeLineCommand
  split
  · exact (run lineStart).imp id fun ⟨l, hl, hr, h⟩ => ⟨l, hl, .inl ⟨hr, .inl h⟩⟩
  · exact (run lineFeedOn).imp id fun ⟨l, hl, hr, h⟩ => ⟨l, hl, .inl ⟨hr, .inr (.inl h)⟩⟩
  · exact (run lineFeedOff).imp id fun ⟨l, hl, hr, h⟩ => ⟨l, hl, .inl ⟨hr, .inr (.inr (.inl h))⟩⟩
  · exact (run lineStop).imp id fun ⟨l, hl, hr, h⟩ => ⟨l, hl, .inl ⟨hr, .inr (.inr (.inr (.inl h)))⟩⟩
  · exact (run lineReset).imp id fun ⟨l, hl, hr, h⟩ => ⟨l, hl, .inl ⟨hr, .inr (.inr (.inr (.inr h)))⟩⟩
  · exact (onLine_state line _ s).imp id fun ⟨l, hl, h⟩ => ⟨l, hl, .inr h⟩
  · rcases onLine_state line (fun _ s => (s, .refusedRange, [])) s with h | ⟨l, _, h⟩ <;> exact .inl h

/-- What `takeLineCommand` leaves as it was. -/
theorem takeLineCommand_frame (a k : Byte) (s : State) :
    ((takeLineCommand a k s).1).pending = s.pending ∧ ((takeLineCommand a k s).1).tbs = s.tbs ∧
      ((takeLineCommand a k s).1).piu = s.piu ∧ ((takeLineCommand a k s).1).lpe = s.lpe ∧
      ((takeLineCommand a k s).1).rdu = s.rdu ∧ ((takeLineCommand a k s).1).sdu = s.sdu ∧
      ((takeLineCommand a k s).1).otu = s.otu ∧ ((takeLineCommand a k s).1).replies = s.replies ∧
      ((takeLineCommand a k s).1).downstream = s.downstream ∧ ((takeLineCommand a k s).1).free = s.free := by
  rcases takeLineCommand_cases a k s with h | ⟨l, _, ⟨_, h | h | h | h | h⟩ | h⟩ <;> rw [h]
  · exact ⟨rfl, rfl, rfl, rfl, rfl, rfl, rfl, rfl, rfl, rfl⟩
  · exact lineStart_frame l s
  · exact lineFeedOn_frame l s
  · exact lineFeedOff_frame l s
  · exact lineStop_frame l s
  · exact lineReset_frame l s
  · exact takeResetFeederOf_frame l s

/-- What `takeDispatchOverride` leaves as it was. -/
theorem takeDispatchOverride_frame (t : Word) (r : Half) (s : State) :
    (takeDispatchOverride t r s).1.pending = s.pending ∧ (takeDispatchOverride t r s).1.rgi = s.rgi ∧
      (takeDispatchOverride t r s).1.tbs = s.tbs ∧ (takeDispatchOverride t r s).1.piu = s.piu ∧
      (takeDispatchOverride t r s).1.lpe = s.lpe ∧ (takeDispatchOverride t r s).1.gsq = s.gsq ∧
      (takeDispatchOverride t r s).1.lsv = s.lsv ∧ (takeDispatchOverride t r s).1.eau = s.eau ∧
      (takeDispatchOverride t r s).1.rdu = s.rdu ∧ (takeDispatchOverride t r s).1.otu = s.otu ∧
      (takeDispatchOverride t r s).1.replies = s.replies ∧
      (takeDispatchOverride t r s).1.downstream = s.downstream ∧ (takeDispatchOverride t r s).1.free = s.free := by
  unfold takeDispatchOverride
  (repeat' first | split | dsimp only) <;> exact ⟨rfl, rfl, rfl, rfl, rfl, rfl, rfl, rfl, rfl, rfl, rfl, rfl, rfl⟩

/-- What `takeDispatchClear` leaves as it was. -/
theorem takeDispatchClear_frame (s : State) :
    (takeDispatchClear s).1.pending = s.pending ∧ (takeDispatchClear s).1.rgi = s.rgi ∧
      (takeDispatchClear s).1.tbs = s.tbs ∧ (takeDispatchClear s).1.piu = s.piu ∧
      (takeDispatchClear s).1.lpe = s.lpe ∧ (takeDispatchClear s).1.gsq = s.gsq ∧
      (takeDispatchClear s).1.lsv = s.lsv ∧ (takeDispatchClear s).1.eau = s.eau ∧
      (takeDispatchClear s).1.rdu = s.rdu ∧ (takeDispatchClear s).1.otu = s.otu ∧
      (takeDispatchClear s).1.replies = s.replies ∧ (takeDispatchClear s).1.downstream = s.downstream ∧
      (takeDispatchClear s).1.free = s.free := by
  unfold takeDispatchClear
  (repeat' first | split | dsimp only) <;> exact ⟨rfl, rfl, rfl, rfl, rfl, rfl, rfl, rfl, rfl, rfl, rfl, rfl, rfl⟩

/-- What `takeOutputMode` leaves as it was. -/
theorem takeOutputMode_frame (m : Byte) (s : State) :
    (takeOutputMode m s).1.pending = s.pending ∧ (takeOutputMode m s).1.rgi = s.rgi ∧
      (takeOutputMode m s).1.tbs = s.tbs ∧ (takeOutputMode m s).1.piu = s.piu ∧
      (takeOutputMode m s).1.lpe = s.lpe ∧ (takeOutputMode m s).1.gsq = s.gsq ∧
      (takeOutputMode m s).1.lsv = s.lsv ∧ (takeOutputMode m s).1.eau = s.eau ∧
      (takeOutputMode m s).1.rdu = s.rdu ∧ (takeOutputMode m s).1.sdu = s.sdu ∧
      (takeOutputMode m s).1.replies = s.replies ∧ (takeOutputMode m s).1.downstream = s.downstream ∧
      (takeOutputMode m s).1.free = s.free := by
  unfold takeOutputMode
  (repeat' first | split | dsimp only) <;> exact ⟨rfl, rfl, rfl, rfl, rfl, rfl, rfl, rfl, rfl, rfl, rfl, rfl, rfl⟩

/-- What `resetGroup` leaves as it was. -/
theorem resetGroup_frame (g : Fin 8) (s : State) :
    (resetGroup g s).pending = s.pending ∧ (resetGroup g s).tbs = s.tbs ∧ (resetGroup g s).piu = s.piu ∧
      (resetGroup g s).lpe = s.lpe ∧ (resetGroup g s).gsq = s.gsq ∧ (resetGroup g s).lsv = s.lsv ∧
      (resetGroup g s).eau = s.eau ∧ (resetGroup g s).rdu = s.rdu ∧ (resetGroup g s).sdu = s.sdu ∧
      (resetGroup g s).replies = s.replies ∧ (resetGroup g s).downstream = s.downstream ∧
      (resetGroup g s).free = s.free := by
  unfold resetGroup releaseByReset
  dsimp only
  (repeat' split) <;> simp

/-- What `takeTripReset` leaves as it was. -/
theorem takeTripReset_frame (g : Byte) (s : State) :
    (takeTripReset g s).1.pending = s.pending ∧ (takeTripReset g s).1.tbs = s.tbs ∧
      (takeTripReset g s).1.piu = s.piu ∧ (takeTripReset g s).1.lpe = s.lpe ∧ (takeTripReset g s).1.gsq = s.gsq ∧
      (takeTripReset g s).1.lsv = s.lsv ∧ (takeTripReset g s).1.eau = s.eau ∧ (takeTripReset g s).1.rdu = s.rdu ∧
      (takeTripReset g s).1.sdu = s.sdu ∧ (takeTripReset g s).1.replies = s.replies ∧
      (takeTripReset g s).1.downstream = s.downstream ∧ (takeTripReset g s).1.free = s.free := by
  unfold takeTripReset
  (repeat' first | split | dsimp only) <;> first | exact resetGroup_frame _ s | exact ⟨rfl, rfl, rfl, rfl, rfl, rfl, rfl, rfl, rfl, rfl, rfl, rfl⟩

/-- `takeRecordRead` changes nothing. -/
@[simp] theorem takeRecordRead_state (l : Byte) (d : Half) (i : Byte) (s : State) : (takeRecordRead l d i s).1 = s := by
  unfold takeRecordRead; (repeat' split) <;> rfl

/-- `takeDayRead` changes nothing. -/
@[simp] theorem takeDayRead_state (l : Byte) (d : Half) (s : State) : (takeDayRead l d s).1 = s := by
  unfold takeDayRead; (repeat' split) <;> rfl

/-- `takeRingInfo` changes nothing. -/
@[simp] theorem takeRingInfo_state (l : Byte) (s : State) : (takeRingInfo l s).1 = s := by
  unfold takeRingInfo; (repeat' split) <;> rfl

/-- What `takeStatusRead` leaves as it was. -/
theorem takeStatusRead_frame (s : State) :
    (takeStatusRead s).1.pending = s.pending ∧ (takeStatusRead s).1.tbs = s.tbs ∧
      (takeStatusRead s).1.piu = s.piu ∧ (takeStatusRead s).1.lpe = s.lpe ∧ (takeStatusRead s).1.gsq = s.gsq ∧
      (takeStatusRead s).1.lsv = s.lsv ∧ (takeStatusRead s).1.eau = s.eau ∧ (takeStatusRead s).1.rdu = s.rdu ∧
      (takeStatusRead s).1.sdu = s.sdu ∧ (takeStatusRead s).1.otu = s.otu ∧
      (takeStatusRead s).1.replies = s.replies ∧ (takeStatusRead s).1.downstream = s.downstream ∧
      (takeStatusRead s).1.free = s.free := by
  unfold takeStatusRead
  exact ⟨rfl, rfl, rfl, rfl, rfl, rfl, rfl, rfl, rfl, rfl, rfl, rfl, rfl⟩

/-- What `takeRestart` leaves as it was. -/
theorem takeRestart_frame (s : State) :
    (takeRestart s).1.pending = s.pending ∧ (takeRestart s).1.tbs = s.tbs ∧ (takeRestart s).1.piu = s.piu ∧
      (takeRestart s).1.lpe = s.lpe ∧ (takeRestart s).1.gsq = s.gsq ∧ (takeRestart s).1.lsv = s.lsv ∧
      (takeRestart s).1.eau = s.eau ∧ (takeRestart s).1.rdu = s.rdu ∧ (takeRestart s).1.sdu = s.sdu ∧
      (takeRestart s).1.otu = s.otu ∧ (takeRestart s).1.replies = s.replies ∧
      (takeRestart s).1.downstream = s.downstream ∧ (takeRestart s).1.free = s.free := by
  unfold takeRestart
  (repeat' first | split | dsimp only) <;> exact ⟨rfl, rfl, rfl, rfl, rfl, rfl, rfl, rfl, rfl, rfl, rfl, rfl, rfl⟩


end Machine
end Sys2Proof
end

