-- ==== Sys2Proof/Laws/Keep.lean ====
section
/-! SUPPORT. The one induction behind every invariant: what every operation keeps, every command and every step keeps. -/

namespace Sys2Proof
namespace Machine

/-- Every operation a command is made of keeps a property of the state (the taking of a command from the queue aside). -/
structure Kept (P : State → Prop) : Prop where
  replies : ∀ s x, P s → P (s.withReplies x)
  downstream : ∀ s x, P s → P (s.withDownstream x)
  drawFree : ∀ s, P s → P s.drawFree
  powerOn : ∀ pins s, P s → P (powerOnState pins s)
  raise : ∀ s es, P s → P (s.raiseAll es)
  books : ∀ s r, P s → r.high = s.rgi.high → r.normal = s.rgi.normal → r.restartPending = s.rgi.restartPending →
    P (s.withRgi r)
  pop : ∀ s e r, P s → nextEvent s.rgi = some (e, r) → P (s.withRgi r)
  restart : ∀ s, P s → s.rgi.restartPending = true → P (restartPart s)
  swap : ∀ s, P s → s.tbs.shadow = .swapPending → P (swapBanks s)
  failed : ∀ s, P s → P (failedImage s)
  loops : ∀ s, P s → P (lpeRingLoss s)
  grate : ∀ l s, P s → P (gsqRingLoss l s)
  work : ∀ f b s, P s → P (blockWork f b s)
  request : ∀ r s, P s → P (takeRequest r s).1
  point : ∀ s i sample, P s → P (evaluateAlone s i (resultOf s i sample))
  cycle : ∀ l s t, P s → execStrokeCycleStart l s = .next t → P t
  timer : ∀ l s t, P s → execStepTimerStart l s = .next t → P t
  complete : ∀ l s t, P s → execStepComplete l s = .next t → P t
  timeout : ∀ l s t, P s → execStepTimeout l s = .next t → P t
  period : ∀ n time s, P s → P (closePeriod n time s)
  dosing : ∀ l r s t, P s → execDosingLimit l r s = .next t → P t
  delayed : ∀ s g, P s → delayedReleaseDue s g = true → P (releaseDelayed s g)
  interval : ∀ s k, P s → intervalElapsed s k = true → P (writeRecord s k)

variable {P : State → Prop}

/-! ## A whole frame -/

theorem FrameCtx.answer_keeps (c : FrameCtx) (t : Telegram) (n : Nat) (run : State → State × Answer)
    (hr : P (run c.state).1) (hc : P c.state) : P (c.answer t n run).state := by
  unfold FrameCtx.answer
  split
  · exact hr
  · exact hc

theorem FrameCtx.taken_keeps (h : Kept P) (c : FrameCtx) (t : Telegram) (n : Nat) (hc : P c.state) :
    P (c.taken t n).state := by
  unfold FrameCtx.taken
  split
  · exact hc
  split
  · exact c.answer_keeps t _ _ hc hc
  split
  · exact c.answer_keeps t _ _ hc hc
  · exact c.answer_keeps t _ _ hc hc
  · exact c.answer_keeps t _ _ (h.request _ _ hc) hc

theorem FrameCtx.walk_keeps (h : Kept P) (c : FrameCtx) (w : WalkItem) (hc : P c.state) : P (c.walk w).state := by
  unfold FrameCtx.walk
  split
  · split
    · exact FrameCtx.taken_keeps h _ _ _ hc
    · exact hc
  · exact h.books _ _ hc rfl rfl rfl

theorem FrameCtx.placeEvent_keeps (h : Kept P) (c : FrameCtx) (hc : P c.state) : P c.placeEvent.state := by
  unfold FrameCtx.placeEvent
  split
  · exact hc
  · split
    · exact h.pop _ _ _ hc ‹_›
    · exact hc

theorem FrameCtx.step_keeps (h : Kept P) (f : List Byte) (c : FrameCtx) (i : FrameItem) (hc : P c.state) :
    P (c.step f i).state := by
  unfold FrameCtx.step
  split
  · exact h.work f _ _ hc
  · exact c.walk_keeps h _ hc
  · exact FrameCtx.placeEvent_keeps h _ (c.placeEvent_keeps h hc)

theorem foldl_step_keeps (h : Kept P) (f : List Byte) (is : List FrameItem) (c : FrameCtx) (hc : P c.state) :
    P (is.foldl (FrameCtx.step f) c).state := by
  induction is generalizing c with
  | nil => exact hc
  | cons i is ih => exact ih _ (c.step_keeps h f i hc)

theorem arrive_keeps (h : Kept P) (s : State) (f : List Byte) (hs : P s) : P (arrive s f) := by
  unfold arrive startTimerAfresh
  refine h.books _ _ ?_ rfl rfl rfl
  have hb : P ((bookFrame s f).raiseAll (arrivalEvents s f)) := h.raise _ _ (h.books _ _ hs rfl rfl rfl)
  unfold takePendingEffect
  split
  · exact h.restart _ hb ‹_›
  split
  · exact h.swap _ hb ‹_›
  · exact hb

theorem handleFrame_keeps (h : Kept P) (picks : List Nat) (f : List Byte) (s : State) (hs : P s) :
    P (handleFrame picks f s) := by
  have accept : P (acceptFrame picks s f) :=
    h.drawFree _ (h.downstream _ _ (h.replies _ _ (foldl_step_keeps h f _ _ (arrive_keeps h s f hs))))
  unfold handleFrame
  split
  · exact h.downstream _ _ (h.replies _ _ (h.failed _ hs))
  · exact h.downstream _ _ (h.replies _ _ hs)
  · exact accept
  · exact accept
  · exact accept

/-! ## Every command and every step -/

/-- A telegram by itself keeps what its owner keeps. -/
theorem answerAlone_keeps (h : Kept P) (kind tag : Byte) (r : State × Answer) (hr : P r.1) : P (answerAlone kind tag r) :=
  h.replies _ _ hr

/-- A line command by its kind is one of the six bodies. -/
theorem line_bodies_keep (h : Kept P) (line : Byte) (s : State) (hs : P s) :
    P (takeLineStart line s).1 ∧ P (takeLineFeedOn line s).1 ∧ P (takeLineFeedOff line s).1 ∧ P (takeLineStop line s).1 ∧
      P (takeLineReset line s).1 ∧ P (takeResetFeeder line s).1 :=
  ⟨h.request (.lineCommand line 0) s hs, h.request (.lineCommand line 1) s hs, h.request (.lineCommand line 2) s hs,
    h.request (.lineCommand line 3) s hs, h.request (.lineCommand line 4) s hs, h.request (.lineCommand line 5) s hs⟩

theorem exec_keeps (h : Kept P) (c : Instr) (s t : State) (hs : P s) (he : exec c s = .next t) : P t := by
  have one {x y : State} (hx : P x) (e : (Host.Outcome.next x : Host.Outcome State Fault Refusal) = .next y) : P y := by
    cases e; exact hx
  have guard {b : Bool} {x y : State} (hx : b = true → P x)
      (e : (Host.Outcome.next (if b then x else s) : Host.Outcome State Fault Refusal) = .next y) : P y := by
    refine one ?_ e
    cases hb : b
    · exact hs
    · exact hx hb
  cases c with
  | powerOn pins => exact one (h.powerOn _ _ hs) he
  | cycleFrameArrival f => exact one (handleFrame_keeps h _ _ _ hs) he
  | ringLossTimerExpiry =>
    refine one ?_ he
    split
    · split
      · exact h.grate _ _ (h.grate _ _ (h.loops _ (h.raise _ _ (h.books _ _ hs rfl rfl rfl))))
      · exact hs
    · exact hs
  | restartTakesEffect => exact guard (h.restart _ hs) he
  | bankSwapTakesEffect =>
    refine one ?_ he
    split
    · exact h.drawFree _ (h.swap _ hs ‹_ ∧ _›.1)
    · exact hs
  | pointStale i sample => exact guard (fun _ => h.point _ _ _ hs) he
  | binaryQualifiedChange i sample => exact guard (fun _ => h.point _ _ _ hs) he
  | strokeCycleStart l => exact h.cycle _ _ _ hs he
  | stepTimerStart l => exact h.timer _ _ _ hs he
  | stepComplete l => exact h.complete _ _ _ hs he
  | stepTimeout l => exact h.timeout _ _ _ hs he
  | tempQualified l =>
    refine one ?_ he
    split
    · exact h.work [] (.lsv l) _ hs
    · exact hs
  | burnoutEnd l =>
    refine one ?_ he
    split
    · exact h.work [] (.lsv l) _ hs
    · exact hs
  | minuteClose t => exact one (h.period _ _ _ hs) he
  | halfhourClose t => exact one (h.period _ _ _ hs) he
  | dayClose t => exact one (h.period _ _ _ hs) he
  | dosingLimit l r => exact h.dosing _ _ _ _ hs he
  | tripReleasedDelayed g => exact guard (h.delayed _ _ hs) he
  | pairIntervalElapsed k => exact guard (h.interval _ _ hs) he
  | tableOpen tag => exact one (h.replies _ _ (h.request .tableOpen _ hs)) he
  | tableWrite tag a b e => exact one (h.replies _ _ (h.request (.tableWrite a b e) _ hs)) he
  | tableRead tag a b e => exact one (h.replies _ _ (h.request (.tableRead a b e) _ hs)) he
  | tableCommit tag e => exact one (h.replies _ _ (h.request (.tableCommit e) _ hs)) he
  | tableAbandon tag => exact one (h.replies _ _ (h.request .tableAbandon _ hs)) he
  | bankSwap tag => exact one (h.replies _ _ (h.request .bankSwap _ hs)) he
  | pointRead tag a b => exact one (h.replies _ _ (h.request (.pointRead a b) _ hs)) he
  | pointForce tag a b => exact one (h.replies _ _ (h.request (.pointForce a b) _ hs)) he
  | pointRelease tag a => exact one (h.replies _ _ (h.request (.pointRelease a) _ hs)) he
  | loopManual tag a b => exact one (h.replies _ _ (h.request (.loopManual a b) _ hs)) he
  | loopAuto tag a => exact one (h.replies _ _ (h.request (.loopAuto a) _ hs)) he
  | lineCommandStart tag l => exact one (h.replies _ _ (line_bodies_keep h l s hs).1) he
  | lineCommandFeedOn tag l => exact one (h.replies _ _ (line_bodies_keep h l s hs).2.1) he
  | lineCommandFeedOff tag l => exact one (h.replies _ _ (line_bodies_keep h l s hs).2.2.1) he
  | lineCommandStop tag l => exact one (h.replies _ _ (line_bodies_keep h l s hs).2.2.2.1) he
  | lineCommandReset tag l => exact one (h.replies _ _ (line_bodies_keep h l s hs).2.2.2.2.1) he
  | resetFeeder tag l => exact one (h.replies _ _ (line_bodies_keep h l s hs).2.2.2.2.2) he
  | dispatchOverride tag a b => exact one (h.replies _ _ (h.request (.dispatchOverride a b) _ hs)) he
  | dispatchClear tag => exact one (h.replies _ _ (h.request .dispatchClear _ hs)) he
  | outputMode tag a => exact one (h.replies _ _ (h.request (.outputMode a) _ hs)) he
  | tripReset tag a => exact one (h.replies _ _ (h.request (.tripReset a) _ hs)) he
  | recordRead tag a b c => exact one (h.replies _ _ (h.request (.recordRead a b c) _ hs)) he
  | dayRead tag a b => exact one (h.replies _ _ (h.request (.dayRead a b) _ hs)) he
  | ringInfo tag a => exact one (h.replies _ _ (h.request (.ringInfo a) _ hs)) he
  | statusRead tag => exact one (h.replies _ _ (h.request .statusRead _ hs)) he
  | restart tag => exact one (h.replies _ _ (h.request .restart _ hs)) he

/-- What every operation and the taking of a command keep, every step keeps. -/
theorem step_keeps (h : Kept P) (hq : ∀ s q, P s → P (s.withPending q)) (s t : State) (hs : P s) (he : step s = .next t) : P t := by
  unfold step at he
  split at he
  · cases he; exact hs
  · exact exec_keeps h _ _ _ (hq _ _ hs) he

end Machine
end Sys2Proof
end

