-- ==== Sys2Proof/Tests/Slice0.lean ====
section
/-! SUPPORT. Tests: what WellFormed refuses; worked cases of the manual, each on a small state; and for every statement with
hypotheses a named witness, a concrete state and operands that meet them. -/

namespace Sys2Proof
namespace Tests
open Machine

set_option Elab.async false

/-! ## What WellFormed refuses -/

theorem test_frame_below_25_bytes_is_ill_formed : wellFormed (.cycleFrameArrival (List.replicate 24 0)) = false := by decide
theorem test_frame_of_25_bytes_is_well_formed : wellFormed (.cycleFrameArrival (List.replicate 25 0)) = true := by decide
theorem test_ms_of_day_out_of_range_is_ill_formed :
    wellFormed (.minuteClose { day := 1, ms := 86400000 }) = false ∧
      wellFormed (.halfhourClose { day := 1, ms := 86400000 }) = false ∧
      wellFormed (.dayClose { day := 65536, ms := 0 }) = false := by decide
theorem test_entry_above_38_bytes_is_ill_formed : wellFormed (.tableWrite 0 1 0 (List.replicate 39 0)) = false := by decide
theorem test_request_entry_above_38_bytes_is_ill_formed :
    wellFormedRequest (.tableWrite 1 0 (List.replicate 39 0)) = false := by decide

/-! ## Bytes, written out from chapter 11 -/

/-- R194: the check value of the frame check over "123456789". -/
theorem test_frame_check_value :
    frameCheck [0x31, 0x32, 0x33, 0x34, 0x35, 0x36, 0x37, 0x38, 0x39] = 0xCBF43926 := by decide +kernel

/-- R196: one request of each owner, its payload written out byte by byte. -/
theorem test_requests_decode :
    decodeRequest 4 [0x01, 0x02] = .request (.tableCommit 258) ∧
    decodeRequest 8 [0x00, 0x58, 0xFF, 0xFF, 0xFF, 0xFE] = .request (.pointForce 88 0xFFFFFFFE) ∧
    decodeRequest 10 [6, 0x27, 0x10] = .request (.loopManual 6 10000) ∧
    decodeRequest 12 [2, 5] = .request (.lineCommand 2 5) ∧
    decodeRequest 13 [0, 0, 0x46, 0x50, 0x04, 0xB0] = .request (.dispatchOverride 18000 1200) ∧
    decodeRequest 16 [7] = .request (.tripReset 7) ∧
    decodeRequest 17 [1, 0x03, 0x2C, 20] = .request (.recordRead 1 812 20) ∧
    decodeRequest 20 [] = .request .statusRead ∧
    decodeRequest 20 [0] = .badLength ∧ decodeRequest 22 [] = .unknownKind := by decide

/-- R182: two telegrams, the second running past the end. -/
theorem test_walk_finds_a_truncated_telegram :
    walkSection [5, 20, 9, 0, 5, 16, 10, 2, 1] =
      [.telegram { address := 5, kind := 20, tag := 9, payload := [] }, .truncated] := by decide

/-- R198: a T7 entry, written out byte by byte. -/
theorem test_step_entry_decodes :
    decodeStep [1, 0x0A, 2, 0x05, 0x05, 0x0F, 0xA0, 0x17, 0x70, 255] =
      { inUse := 1, outputs := 10, completion := 2, limitMask := 5, limitValue := 5, time := 4000, timeout := 6000,
        next := 255 } := by decide

/-! ## A small plant -/

/-- A GOOD point of a value, as published. -/
def pt (v : Int) (q : Quality := .good) : PointOut := { value := v, quality := q, age := 0, edge := none, newEdge := false }

def demoEmission : EmissionEntry :=
  { o2Point := 1, o2Basis := 0, h2oPoint := 2, o2Ref := 1100, o2Ceil := 1800, action := 100, release := 90,
    reduction := 20, nStop := 3 }

def demoCombustion : CombustionEntry :=
  { emptyCombustion with
    t2sPoint := 5, tmin := 8500, hysteresis := 200, qualHold := 60000, burnoutTime := 1800, steamPoint := 4,
    limitPoints := #v[10, 11, 12, 13, 14, 15, 16, 17], massPerStroke := 450 }

def demoStep (outputs limits values : Byte) (next : Byte) : StepEntry :=
  { inUse := 1, outputs := outputs, completion := 0, limitMask := limits, limitValue := values, time := 0,
    timeout := 8000, next := next }

def demoOutput (window source pair : Byte) : OutputEntry :=
  { window := window, source := source, rawLow := 0, rawHigh := 65535, direction := 0, rateLimit := 0, passive := 0,
    pairId := pair }

def demoBlock (start : Half) (target : Word) : BlockEntry :=
  { inUse := 1, start := start, target := target, ramp := 1200, extraction := 100 }

/-- A bank with a little of everything: it passes validation. -/
def demoBank : Bank :=
  { emptyBank with
    ring := { tCyc := 10, lossTime := 100 }
    combustion := { one := demoCombustion, two := demoCombustion }
    turbine :=
      { rated := 30000, specific := 300, pressurePoint := 7, pLow := 3800, band := 100, fastRamp := 6000, pHigh := 4200,
        extractionSetPoint := 500, extractionGain := 1000 }
    split := { share := 60 }
    emission := { one := demoEmission, two := demoEmission }
    dosing :=
      { lines :=
          { one :=
              { noxTarget := 1500, hclTarget := 100, ureaRatio := 5000, so2Weight := 1500, limeBase := 4000,
                flowPoint := 4, carbonRate := 1000 },
            two := emptyDosingLine },
        limitTime := 300 }
    points := Vector.ofFn fun i : Fin 256 =>
      if i.val < 20 then
        { emptyPoint with
          inUse := 1, kind := if 8 ≤ i.val then 1 else if i.val = 6 then 2 else 0, slot := BitVec.ofNat 16 i.val,
          staleLimit := 3, qualCount := 1, rawHigh := 65535, engHigh := 65535, rangeHigh := 65535 }
      else emptyPoint
    outputs := ((emptyBank.outputs.set 20 (demoOutput 2 5 0)).set 30 (demoOutput 0 16 4)).set 31 (demoOutput 1 17 4)
    pairs := emptyBank.pairs.set 3 { inUse := 1, memberA := 30, memberB := 31, interval := 200 }
    trips := emptyBank.trips.set 5 { point := 8, trigger := 0, failSafe := 1, targets := 2 }
    groups := emptyBank.groups.set 1
      { emptyGroup with
        affected := 1#64 <<< 20, turbineEffect := 1, releaseMode := 2, releaseDelay := 30, lineEffect := 1,
        overrides := #v[{ record := 21, value := 10000 }, { record := 0, value := 0 }, { record := 0, value := 0 },
          { record := 0, value := 0 }] }
    loops := (emptyBank.loops.set 4
        { inService := 1, pvPoint := 3, spSource := 0, spConstant := 350, kp := 2500, ti := 20000, direction := 0,
          outMin := 1000, outMax := 4200, ffSource := 0 }).set 6
        { inService := 1, pvPoint := 3, spSource := 1, spConstant := 0, kp := 1000, ti := 20000, direction := 1,
          outMin := 0, outMax := 6000, ffSource := 1 }
    steps := ((emptyBank.steps.set 0 (demoStep 2 1 1 1)).set 1 (demoStep 1 2 2 2)).set 2 (demoStep 4 4 0 255)
    blocks := ((emptyBank.blocks.set 3 (demoBlock 360 18000)).set 4 (demoBlock 840 24000)).set 5 (demoBlock 1320 14000)
    components := Vector.ofFn fun i : Fin 12 =>
      { point := 3, basis := if i.val = 2 then 1 else 0, analyzer := 9, limit := 2000, minValid := 20,
        uncertainty := 10, dailyLimit := 1500, dayMin := 40 } }

/-- The plant in RUN at run time 1,200,000, in the cycle after number 5, at 10:00 of day 100. -/
def demo : State :=
  { State.reset with
    rgi := { rgiReset with
      ring := .synced, lastCycle := some 5, plant := { day := 100, ms := 36000000 }, runTime := 1200000, advance := 10,
      timer := some 100 }
    tbs := { tbsReset with bankA := demoBank, bankB := demoBank, bankValid := true, device := .run }
    piu := { piuReset with
      image := ((((((piuReset.image.set 1 (pt 700)).set 2 (pt 1800)).set 3 (pt 1500)).set 4 (pt 380)).set 5 (pt 8750)).set 7
        (pt 3900)).set 9 (pt 1) }
    eau := latchEmissions demoBank State.reset.eau }

theorem test_demo_bank_passes_validation : firstOffender demoBank = none := by decide +kernel

/-! ## Worked cases of the manual -/

/-- Section 6.2, "normalization": O2d 854, NOX 1,468 and SO2 1,204, both VALID. -/
theorem test_normalization_case :
    dryOxygen demo .one = 854 ∧ instantOf demo .one 3 = { value := 1468, flag := .valid, lastValid := 1468 } ∧
      instantOf demo .one 2 = { value := 1204, flag := .valid, lastValid := 1204 } := by decide +kernel

/-- Sections 7.3 and 7.4: the urea set point 1,533, the urea term 1,900 and the lime term 3,326. -/
theorem test_dosing_cases :
    let y := rduLineAfter (sampleBoth demo) .one rduLineReset
    y.ureaSet = 1533 ∧ y.ureaTerm = 1900 ∧ y.limeTerm = 3326 := by decide +kernel

/-- Section 8.3, "block selection". -/
theorem test_block_selection_case :
    [30, 359, 360, 839, 1320, 1439].map (fun m => (selectBlock demoBank m).map Fin.val) =
      [some 5, some 5, some 3, some 3, some 5, some 5] := by decide +kernel

/-- Section 8.9, "extraction beyond the lines": demands 360 and 0, unmet 140; and the split at frame 1,000 of section 8.7. -/
theorem test_steam_split_cases :
    splitSteam 500 60 360 0 = { total := 500, demand := { one := 360, two := 0 }, unmet := 140 } ∧
      splitSteam 807 60 450 450 = { total := 807, demand := { one := 450, two := 357 }, unmet := 0 } := by decide

/-- Section 6.3, "minute status": rows A, B, D and E. -/
theorem test_minute_status_cases :
    minuteStatus false { sum := 8412345, valid := 4100, operating := 6000, nonOperating := 0 } = { status := .valid, average := 2052 } ∧
    minuteStatus false { sum := 7, valid := 3990, operating := 6000, nonOperating := 0 } = { status := .invalid, average := 0 } ∧
    minuteStatus false { sum := 7, valid := 2500, operating := 2500, nonOperating := 3500 } =
      { status := .notOperating, average := 0 } ∧
    minuteStatus false { sum := 4500000, valid := 2000, operating := 3000, nonOperating := 3000 } =
      { status := .valid, average := 2250 } := by decide

/-- A frame with no slots, the STATUS_READ of R196 to address 1 with tag 9 in its service section, and a reply section of 20
bytes with nothing used, in cycle 6 at 10:00:00.010 of day 100. -/
def statusFrame : List Byte :=
  [0x5A, 0xC3, 0, 0, 6, 0, 100, 0x02, 0x25, 0x51, 0x0A, 0, 0, 0, 21, 0, 4, 0, 25, 0, 20] ++ [1, 20, 9, 0] ++
    [0, 0, 0, 0, 0, 0, 0, 0, 0, 0, 0, 0, 0, 0, 0, 0, 0, 0, 0, 0] ++ [0x27, 0x91, 0x03, 0x1A]

theorem test_status_frame_is_good : frameGood statusFrame = true := by decide +kernel
theorem test_step_takes_the_command_in_front :
    step { demo with pending := [.lineCommandStart 3 1, .restart 4] } =
      exec (.lineCommandStart 3 1) { demo with pending := [.restart 4] } := rfl

/-! ## Witnesses: the queue, frames, the ring -/

/-- `demo` with one field of a unit changed. -/
def demoRgi (x : Rgi → Rgi) : State := { demo with rgi := x demo.rgi }
def demoTbs (x : Tbs → Tbs) : State := { demo with tbs := x demo.tbs }
def demoGsq (x : Gsq → Gsq) : State := { demo with gsq := demo.gsq.set .one (x gsqReset) }
def demoLsv (x : Lsv → Lsv) : State := { demo with lsv := demo.lsv.set .one (x lsvReset) }
def demoEau (x : EauLine → EauLine) : State :=
  { demo with eau := { demo.eau with lines := { one := x demo.eau.lines.one, two := x demo.eau.lines.two } } }
def demoOtu (x : Otu → Otu) : State := { demo with otu := x demo.otu }
def demoPoint (i : Fin 256) (p : PointOut) : State := { demo with piu := { demo.piu with image := demo.piu.image.set i p } }
def stopped : State := demoTbs fun t => { t with device := .config, bankValid := false }

theorem witness_StepTakesTheFrontCommand :
    ({ demo with pending := [.restart 4] } : State).pending = .restart 4 :: [] ∧ demo.pending = [] := by decide +kernel

/-- A first frame, differences of 1, 1,000 and 1,001, and a frame that ends a loss. -/
theorem witness_AcceptedFrameKeepsTheBooks :
    (demoRgi fun r => { r with ring := .lost }).rgi.ring = .lost ∧ demo.rgi.ring ≠ .lost ∧ frameGood statusFrame = true ∧ State.reset.rgi.lastCycle = none ∧
      ([5, 64542, 64541] : List Nat).map (fun c => (frameCycle statusFrame + 65536 - c) % 65536) = [1, 1000, 1001] := by
  decide +kernel

/-- An arrival with a restart pending, with a swap pending, and with neither; and a frame that holds sample slot 0 and none. -/
theorem witness_pending_at_an_arrival :
    let swap := demoTbs fun t => { t with shadow := .swapPending }
    (demoRgi fun r => { r with restartPending := true }).rgi.restartPending = true ∧ swap.rgi.restartPending = false ∧
      swap.tbs.shadow = .swapPending ∧ demo.tbs.shadow ≠ .swapPending ∧ slotCount statusFrame ≤ 0 ∧
      0 < slotCount (statusFrame.set 11 1) := by decide +kernel

/-- A frame with a damaged byte, in RUN and in CONFIG; and a duplicate. -/
theorem witness_FramesNotAcceptedAreForwarded :
    frameGood (statusFrame.set 46 0) = false ∧ demo.running = true ∧ stopped.running = false ∧
      yes (demo.tables.points.get 0).inUse = true ∧ yes (demo.tables.points.get 20).inUse = false ∧
      (demoRgi fun r => { r with lastCycle := some 6 }).rgi.lastCycle = some (frameCycle statusFrame) := by decide +kernel

/-- The header of a frame of 513 slots, no service section, and a reply section of 20 bytes behind the slots; and the frame with
nothing but zeros behind it. -/
def slotHeader : List Byte :=
  [0x5A, 0xC3, 0, 0, 6, 0, 100, 0x02, 0x25, 0x51, 0x0A, 2, 1, 0, 0, 0, 0, 8, 0x19, 0, 20]
def slotBody : List Byte := slotHeader ++ List.replicate 2072 0
def slotFrame : List Byte := slotBody ++ wordBytes (frameCheck slotBody)

/-- A word written behind a list of bytes reads back from their end. -/
theorem wordAt_behind (b : List Byte) (x : Word) : wordAt (b ++ wordBytes x) b.length = x := by
  have h (k : Nat) : byteAt (b ++ wordBytes x) (b.length + k) = byteAt (wordBytes x) k := by
    simp [byteAt, List.getD_eq_getElem?_getD, List.getElem?_append_right]
  have h0 := h 0
  simp only [Nat.add_zero] at h0
  simp only [wordAt, halfAt, Nat.add_assoc, h, h0]
  change (((x.extractLsb' 16 16).extractLsb' 8 8 ++ (x.extractLsb' 16 16).extractLsb' 0 8) ++
    ((x.extractLsb' 0 16).extractLsb' 8 8 ++ (x.extractLsb' 0 16).extractLsb' 0 8) : BitVec 32) = x
  apply BitVec.eq_of_getLsbD_eq
  intro i hi
  simp only [BitVec.getLsbD_append, BitVec.getLsbD_extractLsb']
  split_ifs
  · simp [*]
  · simp [show i - 8 < 8 by omega, show 8 + (i - 8) = i by omega, show i < 16 by omega]
  · simp [show i - 16 < 8 by omega, show i - 16 < 16 by omega, show 16 + (i - 16) = i by omega]
  · simp [show i - 16 - 8 < 8 by omega, show 8 + (i - 16 - 8) < 16 by omega,
      show 16 + (8 + (i - 16 - 8)) = i by omega]

theorem test_slot_frame_is_good : frameGood slotFrame = true := by
  have hb : slotBody.length = 2093 := by rw [slotBody, List.length_append, List.length_replicate]; rfl
  have hl : slotFrame.length = 2097 := by rw [slotFrame, List.length_append, hb]; rfl
  have hn : bodyLength slotFrame = slotBody.length := by simp [bodyLength, hl, hb]
  have ht : slotFrame.take (bodyLength slotFrame) = slotBody := by rw [hn, slotFrame, List.take_left]
  have hw : wordAt slotFrame (bodyLength slotFrame) = frameCheck slotBody := by rw [hn]; exact wordAt_behind _ _
  unfold frameGood
  rw [ht, hw, hl, show halfAt slotFrame 0 = 0x5AC3 from rfl, show frameInvalid slotFrame = false from rfl,
    show slotCount slotFrame = 513 from rfl, hn, hb]
  simp only [sectionFits, hn, hb, show serviceLength slotFrame = 0 from rfl, show replyOffset slotFrame = 2073 from rfl,
    show replyLength slotFrame = 20 from rfl]
  simp

/-- A placing that fills the space, one of nothing, and a frame that holds slot 512 alone of the window's. -/
theorem witness_ForwardedFrameIsGood :
    frameGood statusFrame = true ∧ 21 ≤ replyOffset statusFrame ∧
      (List.replicate 18 (7 : Byte)).length ≤ replySpace statusFrame ∧ List.replicate 18 (7 : Byte) ≠ [] ∧
      ([] : List Byte).length ≤ replySpace statusFrame ∧ frameGood slotFrame = true ∧ 21 ≤ replyOffset slotFrame ∧
      512 + (0 : Fin 64).val < slotCount slotFrame ∧ ¬ (512 + (1 : Fin 64).val < slotCount slotFrame) := by
  refine ⟨?_, ?_, ?_, ?_, ?_, test_slot_frame_is_good, ?_, ?_, ?_⟩ <;> decide +kernel

theorem witness_RingLossHoldsLoopsAndSequencers :
    demo.rgi.ring = .synced ∧ demo.rgi.timer = some 100 ∧ demo.running = true ∧ stopped.running = false ∧
      (demoGsq fun g => { g with state := .stepping }).gsq.one.state = .stepping ∧ demo.gsq.one.state = .stopped := by
  decide +kernel

/-- An event of the model's frame, of either priority; and queues of 63 and 64. -/
def anEvent (high : Bool) : Event :=
  { kind := .tripTaken, high := high, cycle := 5, plant := { day := 0, ms := 0 }, subject := 1, detail := 0 }
def queueOf (high normal : Nat) : Rgi :=
  { rgiReset with high := List.replicate high (anEvent true), normal := List.replicate normal (anEvent false) }

theorem witness_EventQueueGivesWayByPriority :
    queued (queueOf 3 60) < 64 ∧ queued (queueOf 3 61) = 64 ∧ (queueOf 3 61).normal ≠ [] ∧ queued (queueOf 64 0) = 64 ∧
      (queueOf 64 0).normal = [] ∧ (anEvent true).high = true ∧ (anEvent false).high = false ∧
      demo.rgi.lastCycle = some 5 ∧ (eventNow demo .timeJump false 0 0).cycle = 5 := by decide +kernel

theorem witness_StatusReadAndRestartAnswer :
    (demoOtu fun o => { o with mode := .passive }).otu.mode = .passive ∧ demo.otu.mode = .normal ∧
      (demoOtu fun o => { o with mode := .hold }).otu.mode = .hold := by decide +kernel

theorem witness_RestartTakesEffectOnEveryBlock :
    (demoRgi fun r => { r with restartPending := true }).rgi.restartPending = true := by decide +kernel

/-- A bank that differs from `demoBank` in one field of each kind: a slot, a raw range, a qualification count and a point in use;
loops in service, out of it, with another range, Ti and pv point; an output window, a pair interval and a trip point. -/
def otherBank : Bank :=
  let p (i : Fin 256) : PointEntry := demoBank.points.get i
  let l (i : Fin 12) : LoopEntry := demoBank.loops.get i
  { demoBank with
    points := (((demoBank.points.set 0 { p 0 with slot := 99 }).set 1 { p 1 with rawHigh := 500 }).set 8
      { p 8 with qualCount := 5 }).set 2 { p 2 with inUse := 0 }
    loops := ((demoBank.loops.set 4 { l 4 with outMax := 4100, ti := 30000, pvPoint := 2 }).set 5
      { l 4 with pvPoint := 4 }).set 6 { l 6 with inService := 0 }
    outputs := demoBank.outputs.set 20 (demoOutput 5 5 0)
    pairs := demoBank.pairs.set 3 { demoBank.pairs.get 3 with interval := 300 }
    trips := demoBank.trips.set 5 { demoBank.trips.get 5 with point := 9 } }

/-- A pending swap from `demoBank` to `otherBank`, in RUN and in CONFIG, with a turbine group published TRIPPED and without. -/
theorem witness_BankSwapTakesEffectAtOnce :
    let s := demoTbs fun t => { t with shadow := .swapPending, bankB := otherBank }
    let config : State := { s with tbs := { s.tbs with device := .config, bankValid := false } }
    let tripped : State := { s with otu := { s.otu with pubGroups := s.otu.pubGroups.set 1 true } }
    let o := s.tables
    let n := s.tbs.shadowBank
    s.tbs.shadow = .swapPending ∧ s.rgi.restartPending = false ∧ s.running = true ∧ config.running = false ∧
      ({ s with rgi := { s.rgi with restartPending := true } } : State).rgi.restartPending = true ∧
      yes (o.points.get 20).inUse = false ∧ yes (n.points.get 2).inUse = false ∧
      slotOf (o.points.get 0) ≠ slotOf (n.points.get 0) ∧
      (o.points.get 1).rawHigh ≠ (n.points.get 1).rawHigh ∧ qualCountOf (o.points.get 8) ≠ qualCountOf (n.points.get 8) ∧
      o.points.get 3 = n.points.get 3 ∧ yes (n.loops.get 6).inService = false ∧ yes (o.loops.get 5).inService = false ∧
      yes (n.loops.get 5).inService = true ∧ outMaxOf (o.loops.get 4) ≠ outMaxOf (n.loops.get 4) ∧
      outMinOf (n.loops.get 4) ≤ outMaxOf (n.loops.get 4) ∧ tiOf o (o.loops.get 4) ≠ tiOf n (n.loops.get 4) ∧
      (o.loops.get 4).pvPoint ≠ (n.loops.get 4).pvPoint ∧ (o.outputs.get 20).window ≠ (n.outputs.get 20).window ∧
      o.outputs.get 30 = n.outputs.get 30 ∧ intervalOf (o.pairs.get 3) ≠ intervalOf (n.pairs.get 3) ∧
      o.pairs.get 0 = n.pairs.get 0 ∧ (o.trips.get 5).point ≠ (n.trips.get 5).point ∧
      tripped.otu.pubGroups.get 1 = true ∧ yes (n.groups.get 1).turbineEffect = true ∧
      (∀ g : Fin 8, s.otu.pubGroups.get g = false) := by decide +kernel

/-! ## Witnesses: telegrams and table banks -/

theorem witness_TelegramsReadBackAsSent :
    wellFormedRequest (.tableWrite 7 0 (List.replicate 38 3)) = true ∧ wellFormedRequest .restart = true ∧
      ∀ t ∈ [({ address := 1, kind := 20, tag := 9, payload := [] } : Telegram),
        { address := 2, kind := 2, tag := 3, payload := List.replicate 255 1 }], t.payload.length ≤ 255 := by decide +kernel

/-- Kinds 0, 21 and 22; a kind of each length at its length, one byte short and one over; TABLE_WRITE at 1, 2, 40 and 41 bytes; a section
that ends inside a header, inside a payload and at its end. -/
theorem witness_requests_that_are_refused :
    let b (n : Nat) : List Byte := List.replicate n 1
    decodeRequest 0 [] = .unknownKind ∧ decodeRequest 22 [] = .unknownKind ∧ decodeRequest 21 [] = .request .restart ∧
      decodeRequest 21 (b 1) = .badLength ∧ decodeRequest 8 (b 5) = .badLength ∧ decodeRequest 8 (b 7) = .badLength ∧
      decodeRequest 8 (b 6) = .request (.pointForce 0x0101 0x01010101) ∧ decodeRequest 2 (b 1) = .badLength ∧
      decodeRequest 2 (b 2) = .request (.tableWrite 1 1 []) ∧ decodeRequest 2 (b 40) = .request (.tableWrite 1 1 (b 38)) ∧
      decodeRequest 2 (b 41) = .badLength ∧ walkSection [5, 20, 9] = [.truncated] ∧
      walkSection [5, 20, 9, 2, 1] = [.truncated] ∧ (walkSection [5, 20, 9, 0, 5, 20, 9, 1, 7]).length = 2 ∧
      WalkItem.truncated ∉ walkSection [5, 20, 9, 0, 5, 20, 9, 1, 7] := by decide +kernel

/-- The shadow in each of its states. -/
def shadowIn (x : ShadowState) : State := demoTbs fun t => { t with shadow := x }

theorem witness_TableReadReturnsWhatTableWriteStored :
    (shadowIn .opened).tbs.shadow = .opened ∧ (9 : Byte).toNat < 10 ∧ (11 : Byte).toNat < entryCount (9 : Byte).toNat ∧
      (List.replicate 10 (7 : Byte)).length = entryLength (9 : Byte).toNat ∧ (0, 3) ∈ visitingOrder ∧
      ((0 : Nat), (3 : Nat)) ≠ ((9 : Byte).toNat, (11 : Byte).toNat) := by decide +kernel

/-- Telegrams before and behind the fourth, of an unknown kind, a wrong length and a request, with the space they need and one byte
less; the part's own address and another; and queues with a HIGH event, a NORMAL event alone and none. -/
theorem witness_TelegramsAreTakenAndEventsPlaced :
    let at_ (space : Nat) (stopped : Bool) (r : Rgi) : FrameCtx :=
      { state := { demo with rgi := r }, space := space, addressed := 0, stopped := stopped, placed := [], replies := [] }
    let c := at_ 16 false (queueOf 1 1)
    (at_ 16 true rgiReset).stopped = true ∧ c.stopped = false ∧ (4 : Nat) < 5 ∧ 6 ≤ (at_ 6 false rgiReset).space ∧
      ¬ (6 ≤ (at_ 5 false rgiReset).space) ∧ 21 < (22 : Byte).toNat ∧ decodeRequest 20 [0] = .badLength ∧
      decodeRequest 20 [] = .request .statusRead ∧ spaceNeeded .statusRead ≤ c.space ∧
      (at_ 15 false rgiReset).space < spaceNeeded .statusRead ∧ 1 ≤ c.state.rgi.address ∧ c.state.rgi.address ≤ 126 ∧
      (1 : Byte).toNat = c.state.rgi.address ∧ (2 : Byte).toNat ≠ c.state.rgi.address ∧
      c.state.rgi.high = anEvent true :: [] ∧ 16 ≤ c.space ∧ (queueOf 0 1).high = [] ∧
      (queueOf 0 1).normal = anEvent false :: [] ∧ (queueOf 0 0).high = [] ∧ (queueOf 0 0).normal = [] := by decide +kernel

/-- Kind bytes 5 and 6 of a LINE_COMMAND, and line bytes 1, 2 and 3. -/
theorem witness_line_command_kinds :
    (takeRequest (.lineCommand 2 5) demo).2 = { status := .refusedState, payload := [0] } ∧ 5 < (6 : Byte).toNat ∧
      (1 : Byte).toNat = Line.one.number ∧ (2 : Byte).toNat = Line.two.number ∧ (3 : Byte) ≠ 1 ∧ (3 : Byte) ≠ 2 ∧
      (takeRequest (.lineCommand 2 6) demo).2 = { status := .refusedRange, payload := [0] } ∧
      (takeRequest (.lineCommand 3 6) demo).2.status = .refusedRange := by decide +kernel

theorem witness_ShadowIsOpenedAbandonedAndOffered :
    (shadowIn .closed).tbs.shadow ≠ .swapPending ∧ (shadowIn .swapPending).tbs.shadow = .swapPending ∧
      (shadowIn .opened).tbs.shadow = .opened ∧ (shadowIn .committed).tbs.shadow = .committed := by decide +kernel

/-- Boundary selectors, tables and indices, and an entry one byte short. -/
theorem witness_TableWriteAndReadByTheFirstCase :
    (shadowIn .opened).tbs.shadow = .opened ∧ 10 ≤ (10 : Byte).toNat ∧ entryCount (9 : Byte).toNat ≤ (12 : Byte).toNat ∧
      (11 : Byte).toNat < entryCount (9 : Byte).toNat ∧ (List.replicate 9 (7 : Byte)).length ≠ entryLength (9 : Byte).toNat ∧
      (List.replicate 10 (7 : Byte)).length = entryLength (9 : Byte).toNat ∧ (2 : Byte) ≠ 0 ∧ (2 : Byte) ≠ 1 := by decide +kernel

/-- The empty bank offends in T0 group 0; a bank whose last block is raised above the rating offends in block 5 alone; copies of a
checked active bank and of the empty one. -/
theorem witness_TableCommitFindsTheFirstOffender :
    let bad := { demoBank with blocks := demoBank.blocks.set 5 (demoBlock 1320 30001) }
    let s := demoTbs fun t => { t with shadow := .opened, bankB := bad, written := 1 }
    let empty := demoTbs fun t => { t with shadow := .opened, bankA := emptyBank, bankB := emptyBank, bankValid := false }
    let copy := (shadowIn .opened).tbs
    s.tbs.shadow = .opened ∧ (1 : Half).toNat = s.tbs.written ∧ (0 : Half).toNat ≠ s.tbs.written ∧
      visitingOrder = visitingOrder.take 433 ++ (8, 5) :: visitingOrder.drop 434 ∧
      (∀ p ∈ visitingOrder.take 433, entryBroken s.tbs.shadowBank p.1 p.2 = false) ∧
      entryBroken s.tbs.shadowBank 8 5 = true ∧
      (∀ p ∈ visitingOrder, entryBroken (shadowIn .opened).tbs.shadowBank p.1 p.2 = false) ∧
      copy.shadow = .opened ∧ copy.written = 0 ∧ copy.shadowBank = copy.activeBank ∧ copy.bankValid = true ∧
      firstOffender copy.activeBank = none ∧ empty.tbs.shadow = .opened ∧ empty.tbs.written = 0 ∧
      empty.tbs.shadowBank = empty.tbs.activeBank ∧ empty.tbs.activeBank = emptyBank := by decide +kernel

theorem witness_ValidatedBankMeetsEveryCheck :
    firstOffender demoBank = none ∧ firstOffender emptyBank ≠ none ∧ (demoBank.outputs.get 30).source ≠ 0 ∧
      (demoBank.outputs.get 30).pairId ≠ 0 ∧
      (demoBank.outputs.get 0).source = 0 ∧ yes (demoBank.pairs.get 3).inUse = true ∧
      yes (demoBank.loops.get 4).inService = true ∧ yes (stepEntry demoBank .one 2).inUse = true ∧
      yes (demoBank.blocks.get 4).inUse = true ∧ yes (demoBank.blocks.get 3).inUse = true := by decide +kernel

/-! ## Witnesses: points and loops -/

/-- A span of one point, one of 8 that is cut, one clamped at 255, and a first index above the last. -/
theorem witness_PointReadReturnsUpToEightPoints :
    min (255 : Half).toNat 255 < (256 : Half).toNat ∧ min (3 : Half).toNat 255 < (4 : Half).toNat ∧
      (255 : Half).toNat ≤ min (999 : Half).toNat 255 ∧
      (1 : Nat) = min (min (999 : Half).toNat 255 - (255 : Half).toNat + 1) 8 ∧
      (8 : Nat) = min (min (8 : Half).toNat 255 - (0 : Half).toNat + 1) 8 := by decide

/-- A point of each kind, in use and not, with and without a force; and values at both sides of the ranges. -/
theorem witness_ForceIsStoredAndReleased :
    256 ≤ (256 : Half).toNat ∧ stopped.running = false ∧ demo.running = true ∧
      yes (demo.tables.points.get 20).inUse = false ∧ yes (demo.tables.points.get 8).inUse = true ∧
      pointKind (demo.tables.points.get 8) = .binary ∧ (2 : Word).toInt ≠ 0 ∧ (2 : Word).toInt ≠ 1 ∧
      pointKind (demo.tables.points.get 6) = .counter ∧ 65535 < (65536 : Word).toInt ∧
      pointKind (demo.tables.points.get 0) = .analog ∧ (0xFFFF7FFF : Word).toInt < -32768 ∧
      -32768 ≤ (0xFFFF8000 : Word).toInt ∧ (demo.piu.work.get 0).force = none ∧
      (({ demo with piu := { demo.piu with work := demo.piu.work.set 0 { pointWorkEmpty with force := some 7 } } } :
        State).piu.work.get 0).force ≠ none := by decide +kernel

/-- A working part: last toggle clear, age 2 of a stale limit of 3. -/
def oldWork : PointWork := { pointWorkEmpty with toggle := some false, age := 2, history := [1500] }

theorem witness_StalePointHoldsItsValue :
    let s : State := { demo with piu := { demo.piu with work := demo.piu.work.set 3 oldWork } }
    let sample : Slot := { raw := 9, toggle := false, fault := false }
    s.running = true ∧ yes (s.tables.points.get 3).inUse = true ∧ (s.piu.work.get 3).condition ≠ .stale ∧
      (s.piu.work.get 3).force = none ∧ (s.piu.work.get 3).toggle = some sample.toggle ∧ sample.fault = false ∧
      staleLimitOf (s.tables.points.get 3) ≤ min 65535 ((s.piu.work.get 3).age + 1) ∧
      (s.piu.work.get 3).toggle = some (!(!sample.toggle)) := by decide +kernel

/-- A BINARY point that has read 1 against a qualified 0 for its qualification count of 1. -/
theorem witness_QualifiedChangeRecordsAnEdge :
    let w : PointWork := { pointWorkEmpty with toggle := some false, qualified := some false, run := 1 }
    let s : State :=
      { demo with piu := { work := demo.piu.work.set 8 w, image := demo.piu.image.set 8 (pt 0) } }
    let sample : Slot := { raw := 1, toggle := true, fault := false }
    let e := s.tables.points.get 8
    s.running = true ∧ yes e.inUse = true ∧ pointKind e = .binary ∧ (s.piu.work.get 8).qualified = some false ∧
      (s.piu.work.get 8).force = none ∧ (s.piu.work.get 8).condition = .good ∧ sample.fault = false ∧
      (s.piu.work.get 8).toggle = some (!sample.toggle) ∧ ((sample.raw != 0) != yes e.invert) = !false ∧
      (s.piu.work.get 8).run = qualCountOf e ∧ (s.piu.image.get 8).value = (if false then 1 else 0) := by decide +kernel

theorem witness_AnalogScalingRoundsToTheNearest :
    let e : PointEntry := { emptyPoint with rawLow := 6400, rawHigh := 32000, engHigh := 1000, rangeHigh := 1000 }
    let crossed : PointEntry := { emptyPoint with rangeLow := 700, rangeHigh := 300 }
    e.rawHigh ≠ e.rawLow ∧ (emptyPoint.rawHigh = emptyPoint.rawLow) ∧ rangeLowOf e ≤ rangeHighOf e ∧
      scaleRaw e 19200 = 500 ∧ rangeHighOf e < 1001 ∧ -1 < rangeLowOf e ∧ rangeHighOf crossed < rangeLowOf crossed ∧
      rangeHighOf crossed < 301 ∧ 300 ≤ rangeHighOf crossed := by decide

theorem witness_LoopTelegramsSetTheOperatorMode :
    12 ≤ (12 : Byte).toNat ∧ 10000 < (10001 : Half).toNat ∧ (4 : Byte).toNat = (4 : Fin 12).val ∧ stopped.running = false ∧
      yes (demo.tables.loops.get 5).inService = false ∧ demo.running = true ∧
      yes (demo.tables.loops.get 4).inService = true ∧ (10000 : Half).toNat ≤ 10000 := by decide +kernel

/-- Loop 4 in AUTO, in MANUAL, held by a BAD point, and tracked through an output record that names it; loop 5 out of service. -/
theorem witness_LoopWorkByEffectiveMode :
    let e := demo.tables.loops.get 4
    let bad := demoPoint 3 (pt 1500 .bad)
    let manual : State :=
      { demo with lpe := { loops := demo.lpe.loops.set 4 { demo.lpe.loops.get 4 with operator := .manual } } }
    let tracked := demoOtu fun o => { o with pub := o.pub.set 20 { outPubNone with back := 700, override := true } }
    demo.running = true ∧ yes (demo.tables.loops.get 5).inService = false ∧ yes e.inService = true ∧
      outMinOf e ≤ outMaxOf e ∧ trackedValue demo 4 = none ∧ holdCause demo 4 e = false ∧
      (demo.lpe.loops.get 4).operator = .auto ∧ holdCause bad 4 e = true ∧ lineNotOperating bad 4 = false ∧
      (manual.lpe.loops.get 4).operator = .manual ∧ trackedValue tracked 4 = some 700 ∧
      trackedValue demo 6 = none ∧ holdCause demo 6 (demo.tables.loops.get 6) = true ∧ lineNotOperating demo 6 = true := by
  decide +kernel

/-- Record 20 is the lowest that names loop 4, and no record names loop 6; loop 4 selects the constant, loop 6 its role. -/
theorem witness_roles_and_marks :
    let tracked := demoOtu fun o => { o with pub := o.pub.set 20 { outPubNone with back := 700, override := true } }
    (tracked.tables.outputs.get 20).source.toNat = (4 : Fin 12).val + 1 ∧ (tracked.otu.pub.get 20).override = true ∧
      (∀ j : Fin 64, j < 20 → (tracked.tables.outputs.get j).source.toNat ≠ 5) ∧
      (∀ k : Fin 64, (demo.tables.outputs.get k).source.toNat ≠ 7) ∧ yes (demo.tables.loops.get 4).spSource = false ∧
      yes (demo.tables.loops.get 6).spSource = true ∧ yes (demo.tables.loops.get 6).ffSource = true ∧
      setPointOf demo 4 (demo.tables.loops.get 4) = 350 := by decide +kernel

/-! ## Witnesses: grate sequencers and lines -/

/-- Line 1 in WASTE with permission and 40 strokes, its sequencer in PAUSE since a cycle start 90 s ago. -/
def feeding (x : Gsq → Gsq) : State :=
  { demoGsq (fun g => x { g with
      state := .pause, pauseBase := some (1110000, .cycle), current := some 1110000, cycleCount := 517 }) with
    lsv := { one := { lsvReset with pub := { lsvReset.pub with state := .waste, permission := true, strokes := 40 } },
             two := lsvReset } }

/-- The same sequencer in a step of its table, with or without its timer. -/
def stepping (n : Nat) (e : StepEntry) (start : Option Nat) : State :=
  feeding fun g => { g with
    state := .stepping, step := some (n, e), timerStart := start, demands := e.outputs, cycleStart := 1200000 }

theorem witness_StrokeCycleStartsAtStepZero :
    let s := feeding id
    let none0 : State := { s with tbs := { s.tbs with bankA := { demoBank with steps := emptyBank.steps } } }
    ownWork s .one = true ∧ (s.gsq.get .one).state = .pause ∧
      pauseEnd (s.gsq.get .one) (s.lsv.get .one).pub.strokes = some 1200000 ∧ 1200000 ≤ s.rgi.runTime ∧
      (s.lsv.get .one).pub.permission = true ∧ 1 ≤ (s.lsv.get .one).pub.strokes ∧
      yes (stepEntry s.tables .one 0).inUse = true ∧ ownWork none0 .one = true ∧
      yes (stepEntry none0.tables .one 0).inUse = false := by decide +kernel

/-- A pause base that is absent and one of each kind, the strokes at 0 and at 120; and a sequencer STEPPING at its own work. -/
theorem witness_pause_ends :
    let g (base : Option (Nat × PauseKind)) : Gsq := { gsqReset with pauseBase := base }
    (g none).pauseBase = none ∧ pauseEnd (g (some (500, .entry))) 0 = some 500 ∧ pauseEnd (g (some (500, .release))) 0 = none ∧
      pauseEnd (g (some (500, .cycle))) 120 = some 30500 ∧ ((stepping 0 (stepEntry demoBank .one 0) none).gsq.get .one).state = .stepping ∧
      ownWork (stepping 0 (stepEntry demoBank .one 0) none) .one = true := by decide +kernel

/-- Step 0 before its timer, with every record on that names its output; and 8 s after its start, its limit not reached. -/
theorem witness_StepTimerStartsAndTimesOut :
    let e := stepEntry demoBank .one 0
    let s : State := { stepping 0 e none with
      otu := { demo.otu with pub := demo.otu.pub.set 31 { outPubNone with source := 10000, written := 65535 } } }
    let late := stepping 0 e (some 1192000)
    ownWork s .one = true ∧ (s.gsq.get .one).state = .stepping ∧ (s.gsq.get .one).step = some (0, e) ∧
      (s.gsq.get .one).timerStart = none ∧
      (∀ j < 8, e.outputs.getLsbD j = true → ∀ k : Fin 64,
        (s.tables.outputs.get k).source.toNat = 16 + 8 * Line.one.offset + j →
          (s.otu.pub.get k).source = 10000 ∧ (s.otu.pub.get k).pending = false) ∧
      ownWork late .one = true ∧ (late.gsq.get .one).timerStart = some 1192000 ∧
      conditionMet late .one e (late.rgi.runTime - 1192000) = false ∧
      stepTimeoutOf e ≤ late.rgi.runTime - 1192000 := by decide +kernel

/-- A limit reached in step 0, which names step 1; the same where step 1 is not in use; and in step 2, which names END, with one
capture held and with none. -/
theorem witness_StepCompletesByTransferOrEnd :
    let at_ (n : Nat) (i : Fin 16) : State :=
      { stepping n (stepEntry demoBank .one i) (some 1199000) with
        piu := { demo.piu with image := (demo.piu.image.set 10 (pt 1)).set 12 (pt 1) } }
    let e0 := stepEntry demoBank .one 0
    let e2 := stepEntry demoBank .one 2
    let missing : State :=
      { at_ 0 0 with tbs := { demo.tbs with bankA := { demoBank with steps := emptyBank.steps } } }
    ownWork (at_ 0 0) .one = true ∧ conditionMet (at_ 0 0) .one e0 1000 = true ∧ e0.next.toNat = (1 : Fin 16).val ∧
      yes (stepEntry (at_ 0 0).tables .one 1).inUse = true ∧ ownWork missing .one = true ∧
      conditionMet missing .one e0 1000 = true ∧ yes (stepEntry missing.tables .one 1).inUse = false ∧
      ownWork (at_ 2 2) .one = true ∧ conditionMet (at_ 2 2) .one { e2 with limitValue := 0 } 1000 = false ∧
      e2.next = 255 ∧ ((at_ 2 2).gsq.get .one).current = some 1110000 := by decide +kernel

/-- LIMIT, TIME and LIMIT_OR_TIME at a limit of 0 and a time of 4 s: on a CLAMPED limit point, and one millisecond early. -/
theorem witness_completion_conditions :
    let e (code : Byte) : StepEntry := { demoStep 1 1 0 255 with completion := code, time := 4000 }
    let clear := demoPoint 10 (pt 0)
    let clamped := demoPoint 10 (pt 0 .clamped)
    (e 0).completion = 0 ∧ (e 1).completion = 1 ∧ 2 ≤ (e 2).completion.toNat ∧ conditionMet clear .one (e 0) 0 = true ∧
      conditionMet clamped .one (e 0) 9000 = false ∧ conditionMet clamped .one (e 1) 4000 = true ∧
      conditionMet clear .one (e 1) 3999 = false ∧ conditionMet clear .one (e 2) 3999 = true ∧
      conditionMet clamped .one (e 2) 3999 = false := by decide +kernel

theorem witness_ResetFeederLeavesFault :
    (3 : Byte) ≠ 1 ∧ (3 : Byte) ≠ 2 ∧ (2 : Byte).toNat = Line.two.number ∧ demo.running = true ∧ stopped.running = false ∧
      (demoGsq fun g => { g with state := .fault }).gsq.one.state = .fault ∧ demo.gsq.one.state ≠ .fault := by
  decide +kernel

/-- The stroke cycle that starts: its work brings a sequencer from PAUSE into STEPPING. Then the rows of R60: the line off, actuator
1 in conflict, a feed stop, HELD with the ring SYNCED and not, STOPPED in WASTE and not, FAULT. -/
theorem witness_FeedingNeedsPermission :
    let s := feeding id
    let off : State := { s with lsv := { one := lsvReset, two := lsvReset } }
    let conflict : State := { s with piu := { s.piu with image := (s.piu.image.set 12 (pt 1)).set 13 (pt 1 .forced) } }
    let stopBank : Bank := { demoBank with groups := demoBank.groups.set 2 { emptyGroup with feedStop := 1 } }
    let feedStop : State :=
      { s with tbs := { s.tbs with bankA := stopBank }, otu := { s.otu with pubGroups := s.otu.pubGroups.set 2 true } }
    let conflicts (u : State) (a : Fin 4) : Bool :=
      [2 * a.val, 2 * a.val + 1].all fun n =>
        let p := u.point ((u.tables.combustion.get .one).limitPoints.get (indexIn 8 (by decide) n))
        (p.quality == .good || p.quality == .forced) && p.value == 1
    let held := feeding fun g => { g with state := .held }
    s.running = true ∧ ((gsqWork .one s).gsq.get .one).state = .stepping ∧ (s.gsq.get .one).state = .pause ∧
      (s.lsv.get .one).pub.state = .waste ∧ (off.lsv.get .one).pub.state = .off ∧
      conflicts conflict 1 = true ∧ conflicts conflict 0 = false ∧ (∀ a, conflicts s a = false) ∧
      feedStop.otu.pubGroups.get 2 = true ∧ effectIncludes (feedStop.tables.groups.get 2).feedStop .one = true ∧
      (∀ k, s.otu.pubGroups.get k = false) ∧ (held.gsq.get .one).state = .held ∧ held.rgi.ring = .synced ∧
      (feeding fun g => { g with state := .stopped }).gsq.one.state = .stopped ∧
      (feeding fun g => { g with state := .fault }).gsq.one.state = .fault := by decide +kernel

/-- State, step and timer of line 1's sequencer after its work. -/
def afterWork (s : State) : SeqState × Option (Nat × StepEntry) × Option Nat :=
  let g := (gsqWork .one s).gsq.get .one
  (g.state, g.step, g.timerStart)

/-- The own work in PAUSE: a cycle that is due, and no strokes; in STEPPING with no step; and a device in CONFIG. -/
theorem witness_own_work_in_PAUSE :
    let idle : State := { feeding id with lsv := demo.lsv }
    let waste : State := { feeding id with
      lsv := demo.lsv.set .one { lsvReset with pub := { lsvReset.pub with state := .waste, permission := true } } }
    let gone := feeding fun g => { g with state := .stepping, step := none }
    stopped.running = false ∧ ownWork (feeding id) .one = true ∧ ownWork idle .one = false ∧ ownWork waste .one = true ∧
      afterWork (feeding id) = (.stepping, some (0, stepEntry demoBank .one 0), none) ∧ afterWork waste = (.pause, none, none) ∧
      ownWork gone .one = true ∧ afterWork gone = (.stepping, none, none) := by decide +kernel

/-- Step 0 with the timer absent, its record off and on; the timer running with its limit reached, with neither, and with the timeout
alone. -/
theorem witness_own_work_in_STEPPING :
    let e := stepEntry demoBank .one 0
    let on : State := { stepping 0 e none with
      otu := { demo.otu with pub := demo.otu.pub.set 31 { outPubNone with source := 10000 } } }
    let limit : State := { stepping 0 e (some 1199000) with piu := (demoPoint 10 (pt 1)).piu }
    let late := stepping 0 e (some 1192000)
    ownWork on .one = true ∧ ownWork limit .one = true ∧ ownWork late .one = true ∧
      afterWork (stepping 0 e none) = (.stepping, some (0, e), none) ∧ afterWork on = (.stepping, some (0, e), some 1200000) ∧
      conditionMet limit .one e 1000 = true ∧ afterWork limit = (.stepping, some (1, stepEntry demoBank .one 1), none) ∧
      conditionMet late .one e 1000 = false ∧ 1000 < stepTimeoutOf e ∧
      afterWork (stepping 0 e (some 1199000)) = (.stepping, some (0, e), some 1199000) ∧
      conditionMet late .one e 8000 = false ∧ stepTimeoutOf e ≤ 8000 ∧ afterWork late = (.fault, none, none) := by
  refine ⟨?_, ?_, ?_, ?_, ?_, ?_, ?_, ?_, ?_, ?_, ?_, ?_, ?_⟩ <;> decide +kernel
theorem witness_SequencerSound_outside_STEPPING :
    SequencerSound gsqReset ∧ ((gsqWork .one demo).gsq.get .one).state ≠ .stepping := by
  refine ⟨by simp [SequencerSound, gsqReset], by decide +kernel⟩

/-- A line in each of its six states. -/
def lineIn (st : LineState) : State := demoLsv fun v => { v with state := st }

theorem witness_LineCommandsMoveTheLine :
    (3 : Byte) ≠ 1 ∧ (3 : Byte) ≠ 2 ∧ (1 : Byte).toNat = Line.one.number ∧ (2 : Byte).toNat = Line.two.number ∧
      demo.running = true ∧ stopped.running = false ∧ (lineIn .off).lsv.one.state = .off ∧ (lineIn .start).lsv.one.state = .start ∧
      (lineIn .waste).lsv.one.state = .waste ∧ (lineIn .inhibit).lsv.one.state = .inhibit ∧
      (lineIn .burnout).lsv.one.state ≠ .waste := by decide +kernel

/-- R171, R198: an effect byte of 0, 1, 2, 3 and one above. -/
theorem test_effect_bytes :
    ([0, 1, 2, 3, 200].map fun b => (effectIncludes b .one, effectIncludes b .two)) =
      [(false, false), (true, false), (false, true), (true, true), (true, true)] := by decide

/-- START cold, hot, and hot under a published stop; TRIPPED under a published group and without; OFF with a stop and without. -/
theorem witness_FeedOnAndResetByTheLineState :
    let hot := demoLsv fun v => { v with state := .start, qualified := true }
    let stop (s : State) : State :=
      { s with eau := { s.eau with lines := s.eau.lines.set .one { eauLineReset with stop := true, pub := { reduction := false, percent := 0, stop := true } } } }
    let tripped : State := { lineIn .tripped with otu := { demo.otu with pubGroups := demo.otu.pubGroups.set 1 true } }
    (0 : Byte) ≠ 1 ∧ (0 : Byte) ≠ 2 ∧ (1 : Byte).toNat = Line.one.number ∧ (lineIn .start).running = true ∧
      ((lineIn .start).lsv.get .one).qualified = false ∧
      (hot.lsv.get .one).state = .start ∧ (hot.lsv.get .one).qualified = true ∧ (hot.eau.lines.get .one).pub.stop = false ∧
      ((stop hot).eau.lines.get .one).pub.stop = true ∧ tripped.otu.pubGroups.get 1 = true ∧
      effectIncludes (tripped.tables.groups.get 1).lineEffect .one = true ∧
      (∀ g : Fin 8, (lineIn .tripped).otu.pubGroups.get g = false) ∧ ((stop (lineIn .off)).eau.lines.get .one).stop = true ∧
      ((lineIn .off).eau.lines.get .one).stop = false := by decide +kernel

/-- Section 5: 8,730 at Tmin 8,500 and hysteresis 200, above the band for the qualification hold of 60 s and 10 ms less; a burnout of
1,800 s and 10 ms less; a trip, an emission stop, 8,400 and 8,600 in WASTE; a completed cycle that gives a sample, and none. -/
theorem witness_LineWorkTransitions :
    let inh (since : Nat) : State := { demoLsv (fun v => { v with state := .inhibit, bandSince := some since }) with
      piu := { demo.piu with image := demo.piu.image.set 5 (pt 8730) } }
    let burn (time : Nat) : State := { demoLsv (fun v => { v with state := .burnout, burnoutStart := some 0 }) with
      rgi := { demo.rgi with runTime := time } }
    let waste (temp : Int) : State := { lineIn .waste with piu := { demo.piu with image := demo.piu.image.set 5 (pt temp) } }
    let c := demo.tables.combustion.get .one
    let trip (s : State) : State := { s with otu := { demo.otu with pubGroups := demo.otu.pubGroups.set 1 true } }
    let fed : State := { waste 8600 with
      gsq := demo.gsq.set .one { gsqReset with pub := { gsqReset.pub with cycleCount := 1, feed := 18000 } } }
    let since (s : State) : Option Nat := ((lsvWork .one s).lsv.get .one).bandSince
    (inh 1140000).running = true ∧ (∀ g : Fin 8, demo.otu.pubGroups.get g = false) ∧
      ((inh 1140000).eau.lines.get .one).pub.stop = false ∧ ((inh 1140000).lsv.get .one).state = .inhibit ∧
      since (inh 1140000) = some 1140000 ∧ since (inh 1140010) = some 1140010 ∧
      qualHoldOf c ≤ (inh 1140000).rgi.runTime - 1140000 ∧ (inh 1140010).rgi.runTime - 1140010 < qualHoldOf c ∧
      ((burn 1800000).lsv.get .one).burnoutStart = some 0 ∧ burnoutTimeOf c * 1000 ≤ (burn 1800000).rgi.runTime - 0 ∧
      (burn 1799990).rgi.runTime - 0 < burnoutTimeOf c * 1000 ∧ lineTripCause (trip (inh 0)) .one = true ∧
      lineTripCause (trip (lineIn .tripped)) .one = true ∧ ((waste 8400).point c.t2sPoint).value < tminOf c ∧
      tminOf c ≤ ((waste 8600).point c.t2sPoint).value ∧ lineTripCause (waste 8400) .one = false ∧
      ((demoEau fun x => { x with pub := { x.pub with stop := true } }).eau.lines.get .one).pub.stop = true ∧
      (fed.gsq.get .one).pub.cycleCount ≠ (fed.lsv.get .one).lastCount ∧ 1 ≤ (fed.gsq.get .one).pub.feed ∧
      (fed.point c.steamPoint).quality.usable = true ∧ ((lsvWork .one fed).lsv.get .one).state = .waste ∧
      ((lsvWork .one fed).lsv.get .one).samples ≠ [] ∧ ((lsvWork .one demo).lsv.get .one).samples = [] := by decide +kernel

/-! ## Witnesses: emissions and dosing -/

/-- Both lines with an open minute of the given number, the last plant time 1 s before it ends. -/
def openAt (m : Nat) : State :=
  { demoEau (fun x => { x with openMinute := some m }) with
    eau := { (demoEau fun x => { x with openMinute := some m }).eau with lastPlant := some ((m + 1) * 60000 - 1000) } }

/-- A jump from the open minute to the end of a given minute: both lines' lists still short. -/
theorem witness_jumps_of_the_plant_time :
    let t (m : Nat) : PlantTime := { day := m / 1440, ms := m % 1440 * 60000 }
    let m := 100 * 1440 + 600
    let s := openAt m
    let back : State := { s with eau := { s.eau with lastPlant := some 8676059000 } }
    s.running = true ∧ s.eau.lastPlant = some 8676059000 ∧ 8676059000 ≤ plantMs (t (m + 21)) ∧
      plantMinute (t (m + 21)) = m + 1 + 20 ∧ (m + 1 + 20) / 30 = m / 30 ∧
      m / 30 < plantMinute (t (m + 100)) / 30 ∧ m / 1440 = plantMinute (t (m + 100)) / 1440 ∧
      m / 1440 < plantMinute (t (m + 4000)) / 1440 ∧ s.eau.lines.one.halves.length ≤ 96 ∧ s.eau.lines.one.days.length ≤ 7 ∧
      s.eau.lines.two.halves.length ≤ 96 ∧ s.eau.lines.two.days.length ≤ 7 ∧
      s.eau.lines.one.openMinute = some m ∧ s.eau.lines.two.openMinute = some m ∧
      plantMs back.rgi.plant < 8676059000 ∧ plantMinute back.rgi.plant ≤ m := by decide +kernel

/-- Minutes 600, 629 and 1,439 of day 100 open, and a plant time one minute on and at the minute itself; and in CONFIG. -/
theorem witness_closes_that_pass_and_do_not :
    let t (m : Nat) : PlantTime := { day := m / 1440, ms := m % 1440 * 60000 }
    let m := 144600
    let runs (s : State) (m p : Nat) : Bool := s.running && (s.eau.lines.one.openMinute.any fun x => x / p < plantMinute (t m) / p)
    runs (openAt m) m 1 = false ∧ runs (openAt m) (m + 1) 1 = true ∧ runs (openAt (m + 29)) (m + 29) 30 = false ∧
      runs (openAt (m + 29)) (m + 30) 30 = true ∧ runs (openAt (m + 839)) (m + 839) 1440 = false ∧
      runs (openAt (m + 839)) (m + 840) 1440 = true ∧ stopped.running = false ∧
      ((publishEmissions (demoEau fun x => { x with reduction := true })).eau.lines.one.pub.reduction,
        (publishEmissions (demoEau fun x => { x with reduction := true })).eau.lines.one.pub.percent) = (true, 20) := by
  decide +kernel

/-- The first work in RUN; a frame of the open minute 5 s after the last plant time; and a forward jump that does not pass it. -/
theorem witness_frames_that_close_nothing :
    let m := 100 * 1440 + 600
    let at_ (last : Nat) : State := { openAt m with eau := { (openAt m).eau with lastPlant := some last } }
    let now (last : Nat) : State := placeFrame { day := 100, ms := 36000000 } (at_ last)
    demo.eau.lastPlant = none ∧ demo.eau.lines.one.openMinute = none ∧ demo.eau.lines.two.openMinute = none ∧
      plantMinute { day := 100, ms := 36000000 } ≤ m ∧ plantMs { day := 100, ms := 36000000 } = 8676000000 ∧
      (at_ 8675995000).eau.lines.one.openMinute = some m ∧ (at_ 8675995000).eau.lines.two.openMinute = some m ∧
      (now 8675995000).rgi.normal = [] ∧ ((now 8675994999).rgi.normal.map fun e => e.detail) = [256] := by decide +kernel

/-- Minute 600 of day 100 inside its half-hour, 629 at its end, 1,439 at the end of the day. -/
theorem witness_MinuteCloseStoresAndOpens :
    let s := openAt (100 * 1440 + 600)
    let t : PlantTime := { day := 100, ms := 601 * 60000 }
    s.running = true ∧ plantMinute t = 100 * 1440 + 600 + 1 ∧ (100 * 1440 + 600 + 1) % 30 ≠ 0 ∧
      s.eau.lastPlant = some (8676059000) ∧ 8676059000 ≤ plantMs t ∧ plantMs t ≤ 8676059000 + 5000 ∧
      (∀ l : Line, (s.eau.lines.get l).openMinute = some (100 * 1440 + 600)) := by
  refine ⟨by decide +kernel, by decide +kernel, by decide +kernel, by decide +kernel, by decide +kernel, by decide +kernel, ?_⟩
  intro l; cases l <;> decide +kernel
theorem witness_HalfhourCloseRecordsAndLatches :
    let s := openAt (100 * 1440 + 629)
    let t : PlantTime := { day := 100, ms := 630 * 60000 }
    s.running = true ∧ plantMinute t = 100 * 1440 + 629 + 1 ∧ (100 * 1440 + 629 + 1) % 30 = 0 ∧
      (100 * 1440 + 629 + 1) % 1440 ≠ 0 ∧ s.eau.lastPlant = some 8677799000 ∧ 8677799000 ≤ plantMs t ∧
      plantMs t ≤ 8677799000 + 5000 ∧
      (∀ l : Line, (s.eau.lines.get l).openMinute = some (100 * 1440 + 629) ∧ (s.eau.lines.get l).halves.length ≤ 96) := by
  refine ⟨by decide +kernel, by decide +kernel, by decide +kernel, by decide +kernel, by decide +kernel, by decide +kernel,
    by decide +kernel, ?_⟩
  intro l; cases l <;> decide +kernel
theorem witness_DayCloseRecordsTheDay :
    let s := openAt (100 * 1440 + 1439)
    let t : PlantTime := { day := 101, ms := 0 }
    s.running = true ∧ plantMinute t = 100 * 1440 + 1439 + 1 ∧ (100 * 1440 + 1439 + 1) % 1440 = 0 ∧
      s.eau.lastPlant = some 8726399000 ∧ 8726399000 ≤ plantMs t ∧ plantMs t ≤ 8726399000 + 5000 ∧
      (∀ l : Line, (s.eau.lines.get l).openMinute = some (100 * 1440 + 1439) ∧ (s.eau.lines.get l).halves.length ≤ 96 ∧
        (s.eau.lines.get l).days.length ≤ 7) := by
  refine ⟨by decide +kernel, by decide +kernel, by decide +kernel, by decide +kernel, by decide +kernel, by decide +kernel, ?_⟩
  intro l; cases l <;> decide +kernel

/-- Slots of one average in every component, as many as given; the others NOT_OPERATING. -/
def slotsOf (valid : Nat) (average : Nat) : Vector (Option MinuteSlot) 30 :=
  Vector.ofFn fun j =>
    if j.val < valid then some { notOperating := false, comps := Vector.replicate 6 { status := .valid, average := average } }
    else some (skippedSlot false)
def lineOfSlots (valid average : Nat) : EauLine :=
  { latchLine demoBank .one eauLineReset with slots := slotsOf valid average }

/-- Section 6.7 minute 9: 8 slots of mean 2,240 with U 10 against a limit of 2,000 give ACTIVE; minute 27: 25 of 1,995 give CLEAR. -/
theorem witness_FeedReductionFollowsTheRunningMeans :
    (lineOfSlots 8 2240).latch = some (halfLatchOf demoBank .one) ∧ (eauLineReset.latch = none) ∧
      reductionAfter demoEmission (lineOfSlots 8 2240) = true ∧
      reductionAfter demoEmission { lineOfSlots 25 1995 with reduction := true } = false ∧
      reductionAfter demoEmission { lineOfSlots 18 2060 with reduction := true } = true := by decide +kernel

/-- Section 6.5: 27 slots of 2,300 with U 10 give 2,070, above the limit of 2,000; 19 slots are fewer than MinValid; none is
NOT_OPERATING. -/
theorem witness_HalfhourResultByItsSlots :
    (lineOfSlots 27 2300).latch = some (halfLatchOf demoBank .one) ∧
      halfComp (lineOfSlots 27 2300) 3 = { status := .valid, average := 2300, validated := 2070, exceed := true, limit := 2000 } ∧
      (halfComp (lineOfSlots 19 2300) 3).status = .invalid ∧ (halfComp (lineOfSlots 0 0) 3).status = .notOperating := by
  decide +kernel

/-- The events of a half-hour of 27 slots of 2,300, and a VALID, an INVALID and a NOT_OPERATING result in the day. -/
theorem witness_events_and_day_of_a_halfhour :
    let a : DayAcc := { sum := 5, valid := 1, counted := 2 }
    ((halfEvents demo .two (halfRecordOf (lineOfSlots 27 2300) 629) false false true).map fun e => (e.subject, e.detail)) =
        [(2, 20 * 256 + 63), (6, 2070), (7, 2070), (8, 2070), (9, 2070), (10, 2070), (11, 2070), (2, 1)] ∧
      dayAccAfter (halfComp (lineOfSlots 27 2300) 3) a = { sum := 2075, valid := 2, counted := 3 } ∧
      dayAccAfter (halfComp (lineOfSlots 19 2300) 3) a = { a with counted := 3 } ∧
      dayAccAfter (halfComp (lineOfSlots 0 0) 3) a = a := by decide +kernel

/-- Section 6.6: a half-hour with an exceed, one NOT_OPERATING as a whole, and one VALID without exceed. -/
theorem witness_ExceedanceRunAndStopAtAHalfhourClose :
    ((halfRecordOf (lineOfSlots 27 2300) 29).comps.get 3).exceed = true ∧
      (∀ k : Fin 6, ((halfRecordOf (lineOfSlots 0 0) 29).comps.get k).status = .notOperating) ∧
      (∀ k : Fin 6, ((halfRecordOf (lineOfSlots 27 1000) 29).comps.get k).exceed = false) ∧
      ((halfRecordOf (lineOfSlots 27 1000) 29).comps.get 3).status = .valid ∧
      (closeHalfHour demo .one 29 false
        { line := { lineOfSlots 27 2300 with run := 2 }, halves := 0, days := 0, events := [] }).line.stop = true := by
  decide +kernel

/-- A record held among others, a day held, and what is not held. -/
theorem witness_EmissionRecordsAreRead :
    let r := halfRecordOf (lineOfSlots 27 2300) (812 * 1440 + 620)
    let s := demoEau fun x => { x with halves := [r], days := [{ day := 812, comps := tabulate 6 (dayComp x) }] }
    (3 : Byte) ≠ 1 ∧ (3 : Byte) ≠ 2 ∧ (2 : Byte).toNat = Line.two.number ∧ 47 < (48 : Byte).toNat ∧ (20 : Byte).toNat ≤ 47 ∧
      (s.eau.lines.get .two).halves = [] ++ r :: [] ∧ r.day = (812 : Half).toNat ∧ r.index = (20 : Byte).toNat ∧
      (s.eau.lines.get .two).halves.head? = some r ∧ (demo.eau.lines.get .two).halves = [] ∧
      ((s.eau.lines.get .two).days.map fun d => d.day) = [(812 : Half).toNat] ∧ (demo.eau.lines.get .two).days = [] := by
  decide +kernel

/-- Urea: loop 6 at its out max of 6,000 for 300 s; the same with the line not operating, reported, and too young. -/
theorem witness_DosingLimitIsReportedOnce :
    let at_ (since : Nat) (reported operating : Bool) : State :=
      { demoLsv (fun v => { v with pub := { v.pub with operating := operating } }) with
        lpe := { loops := demo.lpe.loops.set 6 { demo.lpe.loops.get 6 with published := 6000 } }
        rdu := { demo.rdu with lines := demo.rdu.lines.set .one { rduLineReset with urea := { since := some since, reported := reported } } } }
    let s := at_ 900000 false true
    s.running = true ∧ (s.lsv.get .one).pub.operating = true ∧
      yes (s.tables.loops.get (dosingLoop .one .urea)).inService = true ∧
      outMaxOf (s.tables.loops.get (dosingLoop .one .urea)) ≤ (s.lpe.loops.get (dosingLoop .one .urea)).published ∧
      ((s.rdu.lines.get .one).limit .urea).reported = false ∧
      limitTimeOf s.tables.dosing * 1000 ≤ s.rgi.runTime - ((s.rdu.lines.get .one).limit .urea).since.getD s.rgi.runTime ∧
      ((at_ 900000 false false).lsv.get .one).pub.operating = false ∧
      (((at_ 900000 true true).rdu.lines.get .one).limit .urea).reported = true ∧
      ¬ (limitTimeOf s.tables.dosing * 1000 ≤
        (at_ 900001 false true).rgi.runTime - (((at_ 900001 false true).rdu.lines.get .one).limit .urea).since.getD 0) := by
  decide +kernel

/-- Normalizable and not; steam and flow usable and not; operating and not. -/
theorem witness_DosingWorkFormsSetPointsAndTerms :
    let lean := demoPoint 1 (pt 1500)
    let bad := demoPoint 4 (pt 380 .bad)
    let h := halfLatchOf demoBank .one
    demo.running = true ∧ (demo.eau.lines.get .one).latch = some h ∧ dryOxygen demo .one < h.o2Ceil ∧
      h.o2Ceil ≤ dryOxygen lean .one ∧ (demo.point (demo.tables.combustion.get .one).steamPoint).quality.usable = true ∧
      (bad.point (bad.tables.combustion.get .one).steamPoint).quality.usable = false ∧
      (demo.lsv.get .one).pub.operating = false ∧
      ((demoLsv fun v => { v with pub := { v.pub with operating := true } }).lsv.get .one).pub.operating = true := by
  decide +kernel

/-- A line under the discard mark and not, at 29,999 and 30,000 samples, operating and not. -/
theorem witness_samples_join_their_minute :
    let full (n : Nat) : MinuteAcc := { sum := 0, valid := 0, operating := n, nonOperating := 0 }
    let s (n : Nat) : State := demoEau fun x => { x with acc := Vector.replicate 6 (full n) }
    let after (u : State) (k : Fin 6) : MinuteAcc := ((sampleBoth u).eau.lines.get .one).acc.get k
    (demoEau fun x => { x with discard := true }).eau.lines.one.discard = true ∧ (s 29999).eau.lines.one.discard = false ∧
      (demo.lsv.get .one).pub.operating = false ∧ after (s 29999) 3 = { full 29999 with nonOperating := 1 } ∧
      after (s 30000) 3 = full 30000 ∧
      after { s 0 with lsv := (demoLsv fun v => { v with pub := { v.pub with operating := true } }).lsv } 3 =
        { sum := 1468, valid := 1, operating := 1, nonOperating := 0 } ∧ stopped.running = false := by decide +kernel

/-- Section 6.2: an analyzer out of service, an O2d at the ceiling, a value over range, a CLAMPED reading and a good one. -/
theorem witness_ComponentFlagByTheFirstRow :
    let h := halfLatchOf demoBank .one
    let flag (s : State) : SampleFlag := ((sampleBoth s).eau.lines.one.inst.get 3).flag
    (demo.eau.lines.get .one).latch = some h ∧ h.o2Ref < 2100 ∧ h.o2Ceil ≤ 2000 ∧
      flag (demoPoint 9 (pt 0)) = .maintHold ∧ flag (demoPoint 1 (pt 1500)) = .o2High ∧
      flag { demo with piu := { demo.piu with image := (demo.piu.image.set 3 (pt 65535)).set 2 (pt 5000) } } = .overRange ∧
      flag (demoPoint 3 (pt 1500 .clamped)) = .inputInvalid ∧ flag demo = .valid := by decide +kernel

/-- An O2 of 700 at an H2O of 1,800: 854 on basis WET and 700 on basis DRY; and an H2O and an O2 beyond their limits. -/
theorem witness_dry_oxygen_of_either_basis :
    let bank := { demoBank with emission := { demoBank.emission with two := { demoEmission with o2Basis := 1 } } }
    let s := demoTbs fun t => { t with bankA := bank }
    yes (s.tables.emission.get .one).o2Basis = false ∧ yes (s.tables.emission.get .two).o2Basis = true ∧
      dryOxygen s .one = 854 ∧ dryOxygen s .two = 700 ∧ waterContent (demoPoint 2 (pt 5001)) .one = 5000 ∧
      dryOxygen { s with piu := (demoPoint 1 (pt 10001)).piu } .two = 10000 := by decide +kernel

/-! ## Witnesses: dispatch, outputs and trips -/

theorem witness_OverrideIsSetAndCleared :
    100000 < (100001 : Word).toNat ∧ 10000 < (10001 : Half).toNat ∧ (100000 : Word).toNat ≤ 100000 ∧ (1 : Half) ≠ 0 ∧
      (1 : Half).toNat ≤ 10000 ∧ (10000 : Half).toNat ≤ 10000 ∧ stopped.running = false ∧ demo.running = true := by
  decide +kernel

/-- 10:00 lies in block 3; with an empty schedule there is none; an override stands under block 3. -/
theorem witness_ActiveBlockGivesTargetRampAndExtraction :
    let none0 := demoTbs fun t => { t with bankA := { demoBank with blocks := emptyBank.blocks } }
    let standing : State := { demo with sdu := { demo.sdu with block := some 3, override := some (9000, 600) } }
    demo.running = true ∧ (sduWork demo).sdu.block = some 3 ∧ (sduWork demo).sdu.override = none ∧
      (sduWork none0).sdu.block = none ∧ (∀ j : Fin 48, ¬ yes (none0.tables.blocks.get j).inUse = true) ∧
      (sduWork standing).sdu.override = some (9000, 600) := by decide +kernel

/-- P_low 3,800 and band 100: 3,799 enters LIMITING, 3,900 returns, a BAD point changes nothing; and a work under the trip hold. -/
theorem witness_SetPointCapabilityAndPressureState :
    let limiting (s : State) : State := { s with sdu := { s.sdu with limiting := true, setPoint := 1000 } }
    let held : State := { demo with sdu := { demo.sdu with tripHold := true } }
    let kept : State := { demo with sdu := { demo.sdu with block := some 3, override := some (9000, 600) } }
    demo.running = true ∧ (sduWork (demoPoint 7 (pt 3799))).sdu.limiting = true ∧
      (sduWork (demoPoint 7 (pt 3800))).sdu.limiting = false ∧
      (sduWork (limiting (demoPoint 7 (pt 3899)))).sdu.limiting = true ∧
      (sduWork (limiting (demoPoint 7 (pt 3900)))).sdu.limiting = false ∧
      (sduWork (limiting (demoPoint 7 (pt 9000 .bad)))).sdu.limiting = true ∧ held.sdu.tripHold = true ∧
      (sduWork demo).sdu.block ≠ demo.sdu.block ∧ (sduWork kept).sdu.block = kept.sdu.block := by decide +kernel

/-- Section 8.6: 1,200 kW/min for 10 ms, a fifth frame, an arrival, and a descent. -/
theorem witness_RampLosesNothingAndNeverPasses :
    (0 < 60000) ∧
      ({ value := 7, acc := 48000, dir := .up } : Mover).toward 9 12000 60000 = { value := 8, acc := 0, dir := .up } ∧
      ({ value := 8, acc := 48000, dir := .up } : Mover).toward 9 12000 60000 = { value := 9, acc := 0, dir := .none } ∧
      ({ value := 9, acc := 48000, dir := .up } : Mover).toward 3 12000 60000 = { value := 9, acc := 12000, dir := .down } := by
  decide

theorem witness_SteamSplitSpillsAndCaps :
    (60 : Nat) ≤ 100 ∧ (splitSteam 500 60 360 0).unmet ≠ 0 ∧ 807 * 60 / 100 ≤ 484 ∧ demo.running = true := by decide +kernel

/-- A group TRIPPED by a latch, by a level, and CLEAR. -/
theorem witness_OutputModeAndTripReset :
    let tripped (level : Bool) : State :=
      demoOtu fun o => { o with
        groups := o.groups.set 1 { tripped := true, absentSince := none, level := level }
        trips := o.trips.set 5 { lastEdge := none, latches := 2, takePresent := false } }
    2 < (3 : Byte).toNat ∧ (2 : Byte).toNat = OutputMode.passive.code ∧ stopped.running = false ∧ 8 ≤ (8 : Byte).toNat ∧
      (1 : Byte).toNat = (1 : Fin 8).val ∧ demo.running = true ∧ (demo.otu.groups.get 1).tripped = false ∧
      ((tripped true).otu.groups.get 1).level = true ∧ ((tripped false).otu.groups.get 1).level = false ∧
      releaseModeOf (demo.tables.groups.get 1) = .autoDelayed ∧ releaseDelayOf (demo.tables.groups.get 1) ≠ 0 ∧
      releaseModeOf (demo.tables.groups.get 0) = .latched := by decide +kernel

/-- Section 9.6: 30 s after the cause went, and 10 ms before. -/
theorem witness_DelayedReleaseAfterTheDelay :
    let s := demoOtu fun o => { o with groups := o.groups.set 1 { tripped := true, absentSince := some 1170000, level := false } }
    s.running = true ∧ (s.otu.groups.get 1).tripped = true ∧ (s.otu.groups.get 1).level = false ∧
      (s.otu.groups.get 1).absentSince = some 1170000 ∧ (∀ i : Fin 32, (s.otu.trips.get i).latches.getLsbD 1 = false) ∧
      releaseModeOf (s.tables.groups.get 1) = .autoDelayed ∧
      releaseDelayOf (s.tables.groups.get 1) * 1000 ≤ s.rgi.runTime - 1170000 ∧
      s.rgi.runTime - 1170010 < releaseDelayOf (s.tables.groups.get 1) * 1000 ∧
      (∀ h : Fin 8, h ≠ 1 → s.otu.pubGroups.get h = true → yes (s.tables.groups.get h).turbineEffect = false) := by
  decide +kernel

/-- Section 9.4: record 30 waits for record 31, written 0 for 200 ms, and for 190 ms. -/
theorem witness_PairMemberGoesAfterTheInterval :
    let z := 1199800
    let s : State := { demoOtu (fun o => { o with
        firstWork := false
        records := (o.records.set 30 { last := some 0, acc := 0, dir := .none, zeroSince := some 0 }).set 31
          { last := some 0, acc := 0, dir := .none, zeroSince := some z }
        pub := o.pub.set 30 { outPubNone with source := 10000, pending := true } }) with
      gsq := demo.gsq.set .one { gsqReset with pub := { gsqReset.pub with demands := 1 } } }
    s.running = true ∧ s.otu.firstWork = false ∧ hasSource (outputOf s 30) = true ∧ pairOf s.tables 30 = some (3, 31) ∧
      (s.otu.pub.get 30).pending = true ∧ 0 < sourceOf s 30 ∧ (s.otu.records.get 30).last = some (rawZero s 30) ∧
      s.otu.mode = .normal ∧ tripDecides s 30 = none ∧ tripDecides s 31 = none ∧ sourceOf s 31 = 0 ∧
      (s.otu.records.get 31).last = some (rawZero s 31) ∧ (s.otu.records.get 31).zeroSince = some z ∧
      intervalOf (s.tables.pairs.get 3) ≤ s.rgi.runTime - z ∧ s.rgi.runTime - 1199810 < intervalOf (s.tables.pairs.get 3) := by
  decide +kernel

/-- Slot 0 is record 30's alone and slot 5 no record's; the pair entry 3 names both its members, and none names record 20; record 20
is decided by the tripped group 1 alone. -/
theorem witness_window_slots_and_pairs :
    let s := demo
    let tripped := demoOtu fun o => { o with groups := o.groups.set 1 { tripped := true, absentSince := none, level := true } }
    (outputOf s 30).source ≠ 0 ∧ (outputOf s 30).window.toNat = (0 : Fin 64).val ∧
      (∀ i : Fin 64, i ≠ 30 → (outputOf s i).source ≠ 0 → (outputOf s i).window ≠ (outputOf s 30).window) ∧
      (∀ j : Fin 64, (outputOf s j).source ≠ 0 → (outputOf s j).window.toNat ≠ (5 : Fin 64).val) ∧
      pairOf demoBank 30 = some (3, 31) ∧ pairOf demoBank 31 = some (3, 30) ∧ pairOf demoBank 20 = none ∧
      tripDecides s 20 = none ∧ tripDecides tripped 20 = some 1 ∧ tripDecides tripped 21 = none ∧
      (writeRecord s 30).otu.window.get 5 = { raw := 0, valid := false } := by decide +kernel

/-- Point 8 reading 1 trips group 1, whose override puts record 20 at 10,000; the pair of records 30 and 31 under PASSIVE. -/
theorem witness_TrippedAndPassiveOutputsAreWrittenPassive :
    let s := demoPoint 8 (pt 1)
    let p := demoOtu fun o => { o with mode := .passive }
    s.running = true ∧ ((otuWork s).otu.groups.get 1).tripped = true ∧
      (s.tables.groups.get 1).affected.getLsbD 20 = true ∧ (s.tables.outputs.get 20).source ≠ 0 ∧
      pairOf s.tables 20 = none ∧ ((otuWork s).otu.pub.get 20).written = 65535 ∧ p.otu.mode = .passive ∧
      pairOf p.tables 30 ≠ none ∧ (s.tables.outputs.get 20).window.toNat < 64 ∧
      (∀ j : Fin 64, (s.tables.outputs.get j).source ≠ 0 → (s.tables.outputs.get j).window.toNat ≠ 5) := by decide +kernel

/-- A group with record 20 in two slots, the lower one deciding, and record 4 in none; hydraulic output 7 of line 2 on. -/
theorem witness_sources_and_overrides :
    let e : GroupEntry := { emptyGroup with
      overrides := #v[{ record := 0, value := 1 }, { record := 21, value := 700 }, { record := 21, value := 10000 },
        { record := 64, value := 65535 }] }
    let s : State := { demo with gsq := demo.gsq.set .two { gsqReset with pub := { gsqReset.pub with demands := 0x80 } } }
    min 64 (e.overrides.get 1).record.toNat = (20 : Fin 64).val + 1 ∧
      (∀ j : Fin 4, j < 1 → min 64 (e.overrides.get j).record.toNat ≠ 21) ∧ overrideFor e 20 = some 700 ∧
      (∀ j : Fin 4, min 64 (e.overrides.get j).record.toNat ≠ 5) ∧ overrideFor e 63 = some 10000 ∧
      sourceValue s 31 = 10000 ∧ sourceValue s 30 = 0 := by decide +kernel

/-- Records 30 and 31 demanded alone and together, each at rest: let go, waiting, and the conflict; and HOLD with a last written
value and without. -/
theorem witness_records_in_normal_and_hold :
    let s (demands : Byte) (mode : OutputMode) : State :=
      { demoOtu (fun o => { o with
          mode := mode, firstWork := false
          records := (o.records.set 30 { last := some 0, acc := 0, dir := .none, zeroSince := some 0 }).set 31
            { last := some 0, acc := 0, dir := .none, zeroSince := some 0 } }) with
        piu := (demoPoint 8 (pt 0)).piu
        gsq := demo.gsq.set .one { gsqReset with pub := { gsqReset.pub with demands := demands } } }
    let alone := otuWork (s 1 .normal)
    let both := otuWork (s 3 .normal)
    (s 1 .normal).running = true ∧ pairOf demo.tables 30 = some (3, 31) ∧ (demo.tables.outputs.get 31).source ≠ 0 ∧
      (alone.otu.pub.get 30).written = 65535 ∧ (both.otu.pub.get 30).pending = true ∧ both.otu.conflict.get 3 = true ∧
      (s 1 .hold).otu.mode = .hold ∧ ((s 1 .hold).otu.records.get 30).last = some 0 ∧
      ((s 1 .hold).otu.records.get 20).last = none ∧ (demo.tables.outputs.get 20).source ≠ 0 ∧
      (∀ g : Fin 8, (alone.otu.groups.get g).tripped = false) ∧ stopped.running = false := by decide +kernel

/-- A level cause, none on a CLEAR group, and none on a TRIPPED one before and after its delay. -/
theorem witness_TripGroupsMoveByTheirCauses :
    let clear := demoPoint 8 (pt 0)
    let released (since : Nat) : State :=
      { clear with otu := { demo.otu with groups := demo.otu.groups.set 1 { tripped := true, absentSince := some since, level := false } } }
    demo.running = true ∧ levelCause (demoPoint 8 (pt 1)) 5 = true ∧ targetsGroup demo 5 1 = true ∧
      (∀ i : Fin 32, ¬ (targetsGroup clear i 1 = true ∧ levelCause clear i = true)) ∧
      (clear.otu.groups.get 1).tripped = false ∧ ((released 0).otu.groups.get 1).tripped = true ∧
      releaseModeOf (clear.tables.groups.get 1) = .autoDelayed ∧
      releaseDelayOf (clear.tables.groups.get 1) * 1000 ≤ (released 1170000).rgi.runTime - 1170000 ∧
      (released 1170010).rgi.runTime - 1170010 < releaseDelayOf (clear.tables.groups.get 1) * 1000 ∧
      ((otuWork (demoPoint 8 (pt 1))).otu.groups.get 1).tripped = true ∧
      yes (demo.tables.groups.get 1).turbineEffect = true ∧
      (∀ g : Fin 8, ((otuWork clear).otu.groups.get g).tripped = false) ∧ valueCause (demoPoint 8 (pt 1)) 5 = true ∧
      (∀ j : Fin 32, j < 5 → targetsGroup demo j 1 = false) ∧
      ((otuWork (released 1170000)).otu.groups.get 1).tripped = false ∧ failSafeCause (demoPoint 8 (pt 1 .bad)) 5 = true ∧
      valueCause (demoPoint 8 (pt 1 .bad)) 5 = false ∧ edgeTaken (demoPoint 8 (pt 1 .bad)) 5 = false := by decide +kernel

/-- An entry of each trigger on point 8 with a rising edge: none taken before, the same one, and under the first work; and its input
GOOD, STALE and CLAMPED. -/
theorem witness_triggers :
    let r : EdgeRecord := { rising := true, cycle := 4, runTime := 1100000 }
    let s (trigger : Byte) (last : Option EdgeRecord) (first : Bool) : State :=
      { demoTbs (fun t => { t with bankA := { demoBank with
          trips := demoBank.trips.set 5 { point := 8, trigger := trigger, failSafe := 1, targets := 2 } } }) with
        piu := (demoPoint 8 { pt 1 with edge := some r }).piu
        otu := { demo.otu with firstWork := first, trips := demo.otu.trips.set 5 { lastEdge := last, latches := 0, takePresent := false } } }
    let quality (q : Quality) : State := demoPoint 8 (pt 1 q)
    edgeRead (s 2 none false) 5 = some r ∧ edgeTaken (s 2 none false) 5 = true ∧ edgeTaken (s 3 none false) 5 = false ∧
      edgeTaken (s 4 none false) 5 = true ∧ edgeTaken (s 2 (some r) false) 5 = false ∧ edgeTaken (s 2 none true) 5 = false ∧
      valueCause (s 0 none false) 5 = true ∧ valueCause (s 1 none false) 5 = false ∧
      ((quality .stale).point (demo.tables.trips.get 5).point).quality = .stale ∧ failSafeCause (quality .stale) 5 = true ∧
      ((quality .clamped).point (demo.tables.trips.get 5).point).quality = .clamped ∧
      levelCause (quality .clamped) 5 = (failSafeCause (quality .clamped) 5 || valueCause (quality .clamped) 5) := by
  refine ⟨?_, ?_, ?_, ?_, ?_, ?_, ?_, ?_, ?_, ?_, ?_, rfl⟩ <;> decide +kernel

/-! ## Witnesses: the whole work of the PIU -/

/-- R9, R16: the steam flow point of the worked case, released with two samples in its history: at its next sample (raw 6,200, which is
3,100), forced again, without a sample; and its mark after each. -/
theorem witness_release_empties_the_filter_once :
    let e : PointEntry := { emptyPoint with
      inUse := 1, staleLimit := 3, rawHigh := 10000, engHigh := 5000, rangeHigh := 4800, depth := 4 }
    let work (force : Option Int) : PointWork :=
      { oldWork with age := 0, history := [7, 8], condition := .good, force := force, released := true }
    let after (sample : Option Slot) (force : Option Int) : PointWork :=
      (evaluatePoint e sample 6 1200000 (work force) (pt 8)).work
    let fresh : Option Slot := some { raw := 6200, toggle := true, fault := false }
    pointKind e = .analog ∧ ((after fresh none).history, (after fresh none).released) = ([3100], false) ∧
      ((after fresh (some 4)).history, (after fresh (some 4)).released) = ([7, 8], true) ∧
      ((after none none).history, (after none none).released) = ([7, 8], true) ∧
      pointKind (demo.tables.points.get 6) ≠ .analog := by decide +kernel

/-- Points 3, 6 and 8 are in use, one of each kind, and point 20 is not: a slot that is absent, at fault, unchanged and changed; a
force, a release, a first qualified value, a run and an edge. -/
theorem witness_AcceptedFramePublishesEveryPoint :
    let with_ (i : Fin 256) (w : PointWork) : State := { demo with piu := { demo.piu with work := demo.piu.work.set i w } }
    let binary (run : Nat) : PointWork := { pointWorkEmpty with toggle := some false, qualified := some false, run := run }
    let slots (toggle fault : Bool) : Nat → Option Slot := fun _ => some { raw := 1, toggle := toggle, fault := fault }
    let after (sample : Nat → Option Slot) (s : State) (i : Fin 256) : PointWork := (piuWork sample s).piu.work.get i
    demo.running = true ∧ stopped.running = false ∧ yes (demo.tables.points.get 20).inUse = false ∧
      yes (demo.tables.points.get 3).inUse = true ∧ pointKind (demo.tables.points.get 3) = .analog ∧
      pointKind (demo.tables.points.get 6) = .counter ∧ pointKind (demo.tables.points.get 8) = .binary ∧
      (after (fun _ => none) demo 3).condition = .bad ∧ (after (slots true true) demo 3).condition = .bad ∧
      (after (slots false false) (with_ 3 oldWork) 3).condition = .stale ∧
      (after (slots true false) (with_ 3 oldWork) 3).history.length = 1 ∧
      ((with_ 3 { oldWork with force := some 7 }).piu.work.get 3).force = some 7 ∧
      (after (slots true false) demo 8).qualified = some true ∧ (after (slots true false) (with_ 8 (binary 0)) 8).run = 1 ∧
      ((piuWork (slots true false) (with_ 8 (binary 1))).piu.image.get 8).newEdge = true := by decide +kernel

/-! ## Witnesses: the invariants -/

/-- A state in RUN with every property that steps keep, its loops at their lower limits. -/
def soundDemo : State := { demo with lpe := lpeRestart demoBank demo.lpe }

theorem witness_StepsKeepTheEventQueue : QueueSound soundDemo.rgi ∧ step soundDemo = .next soundDemo :=
  ⟨by unfold QueueSound; decide +kernel, rfl⟩
theorem witness_StepsKeepBanksCheckedAndPairsApart :
    MarksCounted soundDemo.tbs ∧ BanksChecked soundDemo.tbs ∧ DeviceSound soundDemo ∧ PairsApart soundDemo := by
  unfold MarksCounted BanksChecked DeviceSound PairsApart; decide +kernel
theorem witness_StepsKeepTheEmissionRecords :
    ∀ l : Line, RingsSound (soundDemo.eau.lines.get l) ∧ RecordsSound (soundDemo.eau.lines.get l) := by
  have rings : ∀ l : Line, (soundDemo.eau.lines.get l).halves = [] ∧ (soundDemo.eau.lines.get l).days = [] ∧
      (∀ j : Fin 30, (soundDemo.eau.lines.get l).slots.get j = none) ∧
      (∀ k : Fin 6, ((soundDemo.eau.lines.get l).inst.get k).value ≤ 65535 ∧
        ((soundDemo.eau.lines.get l).inst.get k).lastValid ≤ 65535) ∧
      ∀ k : Fin 6, ((soundDemo.eau.lines.get l).acc.get k).sum ≤ 65535 * ((soundDemo.eau.lines.get l).acc.get k).valid := by
    intro l; cases l <;> decide +kernel
  intro l
  obtain ⟨h, d, j, i, a⟩ := rings l
  exact ⟨by simp [RingsSound, h, d], i, a, by simp [j], by simp [h], by simp [d]⟩
theorem witness_StepsKeepTheRanges :
    (∀ i : Fin 12, LoopInRange (soundDemo.lpe.loops.get i) ∧
      LoopFitsEntry soundDemo.tables i (soundDemo.lpe.loops.get i)) ∧ DispatchInRange soundDemo.sdu ∧
      (∀ k : Fin 64, RateInRange (soundDemo.otu.records.get k)) ∧
      ∀ l : Line, SequencerSound (soundDemo.gsq.get l) ∧ LineSound (soundDemo.lsv.get l) := by
  refine ⟨by unfold LoopInRange LoopFitsEntry; decide +kernel, ?_, by unfold RateInRange; decide +kernel, ?_⟩
  · exact ⟨by rintro b ⟨⟩, by rintro t r ⟨⟩, by decide +kernel⟩
  · intro l; cases l <;> (unfold SequencerSound LineSound; decide +kernel)

end Tests
end Sys2Proof
end

section
/-! SUPPORT. The point intake unit: one rule for each of its functions (R3 to R17). -/

namespace Sys2Proof
namespace Machine

/-! ## Entries of a table by index -/

@[simp] theorem tabulate_get {α : Type} {n : Nat} (f : Fin n → α) (i : Fin n) : (tabulate n f).get i = f i := by
  simp [tabulate, Vector.get_eq_getElem]

@[simp] theorem replicate_get {α : Type} {n : Nat} (x : α) (i : Fin n) : (Vector.replicate n x).get i = x := by
  simp [Vector.get_eq_getElem]

theorem get_set_same {α : Type} {n : Nat} (v : Vector α n) (i : Fin n) (x : α) : (v.set i x).get i = x := by
  simp [Vector.get_eq_getElem]

theorem get_set_other {α : Type} {n : Nat} (v : Vector α n) {i j : Fin n} (h : j ≠ i) (x : α) :
    (v.set i x).get j = v.get j := by
  simp only [Vector.get_eq_getElem]
  exact Vector.getElem_set_ne _ _ fun hij => h (Fin.ext hij.symm)

/-! ## Rounding and the range clamp (R7 to R9) -/

/-- The quotient of naturals rounded to the nearest, halves up: the remainder is at most half the divisor, and a half goes up. -/
theorem round_half_up_nearest (n d : Nat) (hd : 0 < d) :
    2 * ((n : Int) - ((2 * n + d) / (2 * d) : Nat) * d).natAbs ≤ d ∧
      (2 * ((n : Int) - ((2 * n + d) / (2 * d) : Nat) * d).natAbs = d → n < (2 * n + d) / (2 * d) * d) := by
  have hdiv : 2 * ((2 * n + d) / (2 * d) * d) + (2 * n + d) % (2 * d) = 2 * n + d := by
    calc _ = 2 * d * ((2 * n + d) / (2 * d)) + (2 * n + d) % (2 * d) := by ring
      _ = 2 * n + d := Nat.div_add_mod _ _
  have hmod : (2 * n + d) % (2 * d) < 2 * d := Nat.mod_lt _ (by omega)
  rw [← Nat.cast_mul]
  omega

/-- A rounded quotient times its divisor has the sign of the dividend. -/
theorem roundHalfAway_mul (n d : Int) :
    roundHalfAway n d * d = n.sign * ((2 * n.natAbs + d.natAbs) / (2 * d.natAbs) * d.natAbs : Nat) := by
  unfold roundHalfAway
  push_cast
  rw [Int.abs_eq_natAbs d, ← Int.sign_mul_self_eq_natAbs d]
  ring

/-- Rounding to the nearest, halves away from zero (R7, R9). -/
theorem roundHalfAway_nearest (n d : Int) (hd : d ≠ 0) :
    2 * (n - roundHalfAway n d * d).natAbs ≤ d.natAbs ∧
      (2 * (n - roundHalfAway n d * d).natAbs = d.natAbs → n.natAbs < (roundHalfAway n d * d).natAbs) := by
  have hd' : 0 < d.natAbs := Int.natAbs_pos.mpr hd
  obtain ⟨hle, htie⟩ := round_half_up_nearest n.natAbs d.natAbs hd'
  rw [roundHalfAway_mul]
  rcases eq_or_ne n 0 with rfl | hn
  · simp [hd'.ne]
  · have hsign : n.sign.natAbs = 1 := Int.natAbs_sign_of_ne_zero hn
    have hdiff : ∀ k : Nat, (n - n.sign * (k : Int)).natAbs = ((n.natAbs : Int) - k).natAbs := fun k => by
      calc (n - n.sign * (k : Int)).natAbs = (n.sign * ((n.natAbs : Int) - k)).natAbs := by
            rw [mul_sub, Int.sign_mul_natAbs]
        _ = _ := by rw [Int.natAbs_mul, hsign, one_mul]
    rw [hdiff, Int.natAbs_mul, hsign, one_mul, Int.natAbs_natCast, Nat.cast_mul]
    exact ⟨hle, htie⟩

theorem rangeClamp_above {e : PointEntry} {v : Int} (h : rangeHighOf e < v) : rangeClamp e v = (rangeHighOf e, true) :=
  if_pos h

theorem rangeClamp_below {e : PointEntry} {v : Int} (hv : v ≤ rangeHighOf e) (h : v < rangeLowOf e) :
    rangeClamp e v = (rangeLowOf e, true) := by
  simp [rangeClamp, not_lt.mpr hv, h]

theorem rangeClamp_within {e : PointEntry} {v : Int} (hv : v ≤ rangeHighOf e) (h : rangeLowOf e ≤ v) :
    rangeClamp e v = (v, false) := by
  simp [rangeClamp, not_lt.mpr hv, not_lt.mpr h]

theorem scaleRaw_flat {e : PointEntry} (h : e.rawHigh = e.rawLow) (raw : Half) : scaleRaw e raw = engLowOf e :=
  if_pos h

theorem scaleRaw_sub_engLow {e : PointEntry} (h : e.rawHigh ≠ e.rawLow) (raw : Half) :
    scaleRaw e raw - engLowOf e =
      roundHalfAway ((raw.toInt - e.rawLow.toInt) * (engHighOf e - engLowOf e)) (e.rawHigh.toInt - e.rawLow.toInt) := by
  rw [scaleRaw, if_neg h, add_sub_cancel_left]

/-- Settles O24: the quotient by `roundHalfAway_nearest`, the clamp by its two comparisons. -/
theorem analogScalingRoundsToTheNearest : Obligations.AnalogScalingRoundsToTheNearest := by
  refine ⟨fun e raw h => ?_, fun e raw h => scaleRaw_flat h raw, fun e v hr => ?_, fun e v hr => ?_, fun e v hr => ?_⟩
  · have hd : e.rawHigh.toInt - e.rawLow.toInt ≠ 0 := fun h0 => h (BitVec.toInt_inj.mp (sub_eq_zero.mp h0))
    simp only [scaleRaw_sub_engLow h]
    exact roundHalfAway_nearest _ _ hd
  · rcases lt_or_ge (rangeHighOf e) v with hh | hh
    · rw [rangeClamp_above hh]; simp [hr, hh]
    rcases lt_or_ge v (rangeLowOf e) with hl | hl
    · rw [rangeClamp_below hh hl]; simp [hr, hl]
    · rw [rangeClamp_within hh hl]; simp [hl, hh]
  · exact ⟨rangeClamp_above, fun h => rangeClamp_below (h.le.trans hr) h, fun hl hh => rangeClamp_within hh hl⟩
  · exact ⟨rangeClamp_above, fun h => rangeClamp_below h (h.trans_lt hr)⟩

end Machine
end Sys2Proof
end

section
/-! SUPPORT. The evaluation of one sample and what it publishes (R3 to R14). -/

namespace Sys2Proof
namespace Machine

variable {e : PointEntry} {sl : Slot} {w : PointWork} {raw : Half}

/-! ## Age, toggle, fault and stale check (R5, R6) -/

theorem nextAge_none (w : PointWork) : nextAge w none = if w.toggle = none then 0 else min 65535 (w.age + 1) := by
  unfold nextAge
  cases w.toggle <;> rfl

theorem nextAge_some (w : PointWork) (sl : Slot) :
    nextAge w (some sl) = if w.toggle = some sl.toggle then min 65535 (w.age + 1) else 0 := by
  unfold nextAge
  cases w.toggle <;> simp

theorem staleLimit_pos (e : PointEntry) : 0 < staleLimitOf e := by
  unfold staleLimitOf clampNat
  split
  · decide
  · split <;> omega

/-- The working part as a sample's kind path finds it: age and toggle are those of the frame. -/
def PointWork.seen (w : PointWork) (sl : Slot) : PointWork :=
  { w with age := nextAge w (some sl), toggle := some sl.toggle }

theorem evaluate_absent (e : PointEntry) (w : PointWork) :
    evaluate e none w =
      { work := { w with age := nextAge w none, condition := .bad, run := 0 }, value := none, seeded := false } := rfl

theorem evaluate_fault (hf : sl.fault = true) :
    evaluate e (some sl) w =
      { work := { w.seen sl with condition := .bad, run := 0 }, value := none, seeded := false } := by
  simp [evaluate, hf, PointWork.seen, nextToggle]

theorem evaluate_stale (hf : sl.fault = false) (ha : staleLimitOf e ≤ nextAge w (some sl)) :
    evaluate e (some sl) w =
      { work := { w.seen sl with condition := .stale, run := 0 }, value := none, seeded := false } := by
  simp [evaluate, hf, ha, PointWork.seen, nextToggle]

theorem evaluate_fresh (hf : sl.fault = false) (ha : nextAge w (some sl) < staleLimitOf e) :
    evaluate e (some sl) w = kindPath e sl.raw (w.seen sl) := by
  simp [evaluate, hf, not_le.mpr ha, PointWork.seen, nextToggle]

/-- An evaluation ends before the kind path, with the condition STALE or BAD and the value held, or it is the kind path's. -/
theorem evaluate_cases (e : PointEntry) (sample : Option Slot) (w : PointWork) :
    (∃ age toggle c, c.lost = true ∧ evaluate e sample w =
      { work := { w with age := age, toggle := toggle, condition := c, run := 0 }, value := none, seeded := false }) ∨
    (∃ sl, sample = some sl ∧ evaluate e sample w = kindPath e sl.raw (w.seen sl)) := by
  cases sample with
  | none => exact .inl ⟨_, w.toggle, .bad, rfl, evaluate_absent e w⟩
  | some sl =>
    cases hf : sl.fault with
    | true => exact .inl ⟨_, _, .bad, rfl, evaluate_fault hf⟩
    | false =>
      rcases Nat.lt_or_ge (nextAge w (some sl)) (staleLimitOf e) with ha | ha
      · exact .inr ⟨sl, rfl, evaluate_fresh hf ha⟩
      · exact .inl ⟨_, _, .stale, rfl, evaluate_stale hf ha⟩

/-! ## The kind path (R7 to R11) -/

/-- What an ANALOG point's history keeps: the return from STALE or BAD empties it (R9). -/
def PointWork.kept (w : PointWork) : List Int := if w.condition.lost then [] else w.history

/-- The condition that the range clamp gives an ANALOG sample (R8). -/
def clampCondition (e : PointEntry) (raw : Half) : Condition :=
  if (rangeClamp e (scaleRaw e raw)).2 then .clamped else .good

/-- The sample of a BINARY point after its invert flag (R10). -/
def binarySample (e : PointEntry) (raw : Half) : Bool := (raw != 0) != yes e.invert

theorem binarySample_eq (e : PointEntry) (raw : Half) : ((raw != 0) != yes e.invert) = binarySample e raw := rfl

theorem kindPath_analog_forced {f : Int} (hk : pointKind e = .analog) (hf : w.force = some f) :
    kindPath e raw w =
      { work := { w with condition := clampCondition e raw, history := w.kept }
        value := some (rangeClamp e (scaleRaw e raw)).1, seeded := false } := by
  simp [kindPath, hk, hf, clampCondition, PointWork.kept]

theorem kindPath_analog (hk : pointKind e = .analog) (hf : w.force = none) :
    kindPath e raw w =
      let h := joinHistory (depthOf e) (if w.released then [] else w.kept) (rangeClamp e (scaleRaw e raw)).1
      { work := { w with condition := clampCondition e raw, history := h, released := false }
        value := some (filterOutput h), seeded := false } := by
  simp [kindPath, hk, hf, clampCondition, PointWork.kept]

theorem kindPath_binary_first (hk : pointKind e = .binary) (hq : w.qualified = none) :
    kindPath e raw w =
      { work := { w with condition := .good, released := false, qualified := some (binarySample e raw), run := 0 }
        value := some (if binarySample e raw then 1 else 0), seeded := true } := by
  simp [kindPath, hk, hq, binarySample]

theorem kindPath_binary_same (hk : pointKind e = .binary) (hq : w.qualified = some (binarySample e raw)) :
    kindPath e raw w =
      { work := { w with condition := .good, released := false, run := 0 }
        value := some (if binarySample e raw then 1 else 0), seeded := false } := by
  simp [kindPath, hk, hq, binarySample]

theorem kindPath_binary_run (hk : pointKind e = .binary) (hq : w.qualified = some (!binarySample e raw))
    (hr : w.run + 1 ≤ qualCountOf e) :
    kindPath e raw w =
      { work := { w with condition := .good, released := false, run := w.run + 1 }
        value := some (if binarySample e raw then 0 else 1), seeded := false } := by
  simp only [kindPath, hk, hq, binarySample_eq, Bool.eq_not_self, if_false, if_pos hr]
  cases binarySample e raw <;> rfl

theorem kindPath_binary_change (hk : pointKind e = .binary) (hq : w.qualified = some (!binarySample e raw))
    (hr : qualCountOf e < w.run + 1) :
    kindPath e raw w =
      { work := { w with condition := .good, released := false, qualified := some (binarySample e raw), run := 0 }
        value := some (if binarySample e raw then 1 else 0), seeded := false } := by
  simp only [kindPath, hk, hq, binarySample_eq, Bool.eq_not_self, if_false, if_neg (not_le.mpr hr)]
  rfl

theorem kindPath_counter (hk : pointKind e = .counter) :
    kindPath e raw w =
      { work := { w with condition := .good, released := false }, value := some raw.toNat, seeded := false } := by
  simp [kindPath, hk]

/-- The rows of R10 and R11 for a BINARY point with respect to the sample. -/
theorem qualified_cases (q : Option Bool) (x : Bool) : q = none ∨ q = some x ∨ q = some (!x) := by
  cases q with
  | none => exact .inl rfl
  | some b => cases b <;> cases x <;> simp

/-- What every kind path does: age, toggle, force and the last edge stay, and the condition follows the kind. -/
theorem kindPath_frame (e : PointEntry) (raw : Half) (w : PointWork) :
    let r := (kindPath e raw w).work
    r.age = w.age ∧ r.toggle = w.toggle ∧ r.force = w.force ∧ r.edge = w.edge ∧
      r.condition = (if pointKind e = .analog then clampCondition e raw else .good) ∧
      (pointKind e ≠ .analog → r.released = false) := by
  cases hk : pointKind e with
  | analog =>
    cases hf : w.force with
    | none => rw [kindPath_analog hk hf]; simp [hf]
    | some f => rw [kindPath_analog_forced hk hf]; simp [hf]
  | counter => rw [kindPath_counter hk]; simp
  | binary =>
    rcases qualified_cases w.qualified (binarySample e raw) with hq | hq | hq
    · rw [kindPath_binary_first hk hq]; simp
    · rw [kindPath_binary_same hk hq]; simp
    · rcases Nat.lt_or_ge (qualCountOf e) (w.run + 1) with hr | hr
      · rw [kindPath_binary_change hk hq hr]; simp
      · rw [kindPath_binary_run hk hq hr]; simp

theorem clampCondition_not_lost (e : PointEntry) (raw : Half) : (clampCondition e raw).lost = false := by
  unfold clampCondition
  split <;> rfl

theorem kindPath_not_lost (e : PointEntry) (raw : Half) (w : PointWork) :
    (kindPath e raw w).work.condition.lost = false := by
  obtain ⟨-, -, -, -, hc, -⟩ := kindPath_frame e raw w
  rw [hc]
  split
  · exact clampCondition_not_lost e raw
  · rfl

/-! ## What every evaluation does -/

theorem evaluate_force (e : PointEntry) (sample : Option Slot) (w : PointWork) :
    (evaluate e sample w).work.force = w.force := by
  rcases evaluate_cases e sample w with ⟨_, _, _, -, h⟩ | ⟨sl, -, h⟩ <;> rw [h]
  exact (kindPath_frame e sl.raw (w.seen sl)).2.2.1

theorem condition_lost_iff (c : Condition) : c.lost = true ↔ c = .stale ∨ c = .bad := by cases c <;> decide

/-- A point that a frame makes or leaves STALE or BAD keeps all but age, toggle and run, and gives no value. -/
theorem evaluate_of_lost (e : PointEntry) (sample : Option Slot) (w : PointWork)
    (h : (evaluate e sample w).work.condition.lost = true) :
    ∃ age toggle c, evaluate e sample w =
      { work := { w with age := age, toggle := toggle, condition := c, run := 0 }, value := none, seeded := false } := by
  rcases evaluate_cases e sample w with ⟨a, t, c, -, he⟩ | ⟨sl, -, he⟩
  · exact ⟨a, t, c, he⟩
  · rw [he, kindPath_not_lost] at h
    exact absurd h Bool.false_ne_true

/-- An evaluation seeds a BINARY point exactly where it gives it its first qualified value. -/
theorem evaluate_seeded_iff (hk : pointKind e = .binary) (sample : Option Slot) (w : PointWork) :
    (evaluate e sample w).seeded = true ↔ w.qualified = none ∧ (evaluate e sample w).work.qualified ≠ none := by
  rcases evaluate_cases e sample w with ⟨_, _, _, -, h⟩ | ⟨sl, -, h⟩
  · rw [h]; simp
  rw [h]
  rcases qualified_cases (w.seen sl).qualified (binarySample e sl.raw) with hq | hq | hq
  · rw [kindPath_binary_first hk hq]; simpa [PointWork.seen] using hq
  · rw [kindPath_binary_same hk hq]; simp_all [PointWork.seen]
  · rcases Nat.lt_or_ge (qualCountOf e) ((w.seen sl).run + 1) with hr | hr
    · rw [kindPath_binary_change hk hq hr]; simp_all [PointWork.seen]
    · rw [kindPath_binary_run hk hq hr]; simp_all [PointWork.seen]

end Machine
end Sys2Proof
end

section
/-! SUPPORT. The image of a frame, point by point (R2 to R4, R12 to R14), and the work of the PIU as a whole. -/

namespace Sys2Proof
namespace Machine

variable {e : PointEntry} {sl : Slot} {w : PointWork} {prev : PointOut} {sample : Option Slot}

/-! ## The filter (R9) -/

theorem depth_pos (e : PointEntry) : 0 < depthOf e := by
  unfold depthOf
  dsimp only
  split_ifs <;> decide

theorem joinHistory_ne_nil {n : Nat} (hn : 0 < n) (h : List Int) (v : Int) : joinHistory n h v ≠ [] := by
  unfold joinHistory
  rw [ne_eq, List.drop_eq_nil_iff]
  simp only [List.length_append, List.length_singleton]
  omega

theorem filterOutput_nearest {h : List Int} (hh : h ≠ []) :
    2 * (h.sum - filterOutput h * h.length).natAbs ≤ h.length ∧
      (2 * (h.sum - filterOutput h * h.length).natAbs = h.length →
        h.sum.natAbs < (filterOutput h * h.length).natAbs) := by
  have hd : (h.length : Int) ≠ 0 := by simpa using hh
  simpa [filterOutput] using roundHalfAway_nearest h.sum h.length hd

/-! ## What an evaluated point publishes -/

theorem publishedValue_forced {ev : Evaluated} {f : Int} (h : ev.work.force = some f) (prev : PointOut) :
    publishedValue e ev prev = if pointKind e = .analog then (rangeClamp e f).1 else f := by
  unfold publishedValue forcedValue
  rw [h]
  cases pointKind e <;> simp

theorem publishedValue_unforced {ev : Evaluated} (h : ev.work.force = none) (prev : PointOut) :
    publishedValue e ev prev = ev.value.getD prev.value := by
  unfold publishedValue
  rw [h]

theorem publishedQuality_forced {f : Int} (h : w.force = some f) : publishedQuality w = .forced := by
  unfold publishedQuality
  rw [h]

theorem publishedQuality_unforced (h : w.force = none) :
    publishedQuality w = match w.condition with
      | .bad => .bad | .stale => .stale | .clamped => .clamped | .good => .good := by
  cases hc : w.condition <;> simp [publishedQuality, h, hc]

theorem edgeRecorded_iff (e : PointEntry) (sample : Option Slot) (w : PointWork) (prev : PointOut) :
    edgeRecorded e (evaluate e sample w) prev = true ↔
      pointKind e = .binary ∧ publishedValue e (evaluate e sample w) prev ≠ prev.value ∧
        ¬ (w.force = none ∧ w.qualified = none ∧ (evaluate e sample w).work.qualified ≠ none) := by
  unfold edgeRecorded
  rw [evaluate_force]
  by_cases hk : pointKind e = .binary
  · have hs := evaluate_seeded_iff hk sample w
    cases h : (evaluate e sample w).seeded <;> rw [h] at hs <;> cases w.force <;> simp_all
  · simp [hk]

theorem qualityEvent_eq (old new : Condition) :
    qualityEvent old new =
      if old ≠ new ∧ (old = .stale ∨ old = .bad ∨ new = .stale ∨ new = .bad) then some (256 * old.code + new.code)
      else none := by
  cases old <;> cases new <;> decide

/-! ## The work of the PIU as a whole -/

theorem withPiu_raiseAll (s : State) (x : Piu) (es : List Event) :
    (s.withPiu x).raiseAll es = { s with piu := x, rgi := es.foldl enqueue s.rgi } := rfl

theorem piuWork_config {s : State} (h : s.running = false) (f : Nat → Option Slot) : piuWork f s = s := by
  simp [piuWork, h]

theorem pointOfFrame_inUse {s : State} {i : Fin 256} (h : yes (s.tables.points.get i).inUse = true)
    (f : Nat → Option Slot) :
    pointOfFrame s f i =
      evaluatePoint (s.tables.points.get i) (f (slotOf (s.tables.points.get i))) s.rgi.cycleNow s.rgi.runTime
        (s.piu.work.get i) (s.piu.image.get i) := if_pos h

theorem pointOfFrame_notInUse {s : State} {i : Fin 256} (h : yes (s.tables.points.get i).inUse = false)
    (f : Nat → Option Slot) :
    pointOfFrame s f i = { work := pointWorkEmpty, out := pointNotInUse, event := none } := by
  simp [pointOfFrame, h]

section
variable {s : State} (h : s.running = true) (f : Nat → Option Slot)
include h

theorem piuWork_run :
    piuWork f s =
      { s with
        piu := { work := tabulate 256 fun i => (pointOfFrame s f i).work
                 image := tabulate 256 fun i => (pointOfFrame s f i).out }
        rgi := ((List.finRange 256).filterMap fun i =>
          (pointOfFrame s f i).event.map fun d => eventNow s .pointQuality false i.val d).foldl enqueue s.rgi } := by
  simp only [piuWork, h, if_true, tabulate_get]
  exact withPiu_raiseAll s _ _

theorem piuWork_work (i : Fin 256) : (piuWork f s).piu.work.get i = (pointOfFrame s f i).work := by
  rw [piuWork_run h, tabulate_get]

theorem piuWork_image (i : Fin 256) : (piuWork f s).piu.image.get i = (pointOfFrame s f i).out := by
  rw [piuWork_run h, tabulate_get]

end

/-- The event of a point of a frame, from its condition before and after (R14). -/
theorem pointOfFrame_event (s : State) (f : Nat → Option Slot) (i : Fin 256) :
    (pointOfFrame s f i).event =
      let old := (s.piu.work.get i).condition
      let new := (pointOfFrame s f i).work.condition
      if yes (s.tables.points.get i).inUse = true ∧ old ≠ new ∧
          (old = .stale ∨ old = .bad ∨ new = .stale ∨ new = .bad) then some (256 * old.code + new.code)
      else none := by
  cases hu : yes (s.tables.points.get i).inUse with
  | false => simp [pointOfFrame_notInUse hu]
  | true =>
    rw [pointOfFrame_inUse hu]
    simp only [true_and]
    exact qualityEvent_eq _ _

end Machine
end Sys2Proof
end

section
/-! SUPPORT. The work of the PIU on an accepted frame: what every point becomes (O60). -/

namespace Sys2Proof
namespace Machine

variable {e : PointEntry} {sl : Slot} {w : PointWork} {prev : PointOut} {raw : Half}

/-- A fresh ANALOG sample's history and published value (R8, R9), forced and unforced. -/
theorem kindPath_analog_history (hk : pointKind e = .analog) (raw : Half) (w : PointWork) (prev : PointOut) :
    let r := kindPath e raw w
    (w.force ≠ none → r.work.history = w.kept ∧ r.work.released = w.released) ∧
    (w.force = none → r.work.released = false ∧
      r.work.history =
        joinHistory (depthOf e) (if w.released then [] else w.kept) (rangeClamp e (scaleRaw e raw)).1 ∧
      publishedValue e r prev = filterOutput r.work.history ∧ r.work.history ≠ []) := by
  refine ⟨fun hf => ?_, fun hf => ?_⟩
  · obtain ⟨f, hf⟩ := Option.ne_none_iff_exists'.mp hf
    rw [kindPath_analog_forced hk hf]
    exact ⟨rfl, rfl⟩
  · rw [kindPath_analog hk hf, publishedValue_unforced hf]
    exact ⟨rfl, rfl, rfl, joinHistory_ne_nil (depth_pos e) _ _⟩

/-- A fresh BINARY sample's qualified value, run and published value (R10, R11). -/
theorem kindPath_binary_qualified (hk : pointKind e = .binary) (raw : Half) (w : PointWork) (prev : PointOut) :
    let r := kindPath e raw w
    let x := binarySample e raw
    (w.qualified = none → r.work.qualified = some x ∧ r.work.run = 0) ∧
    (w.qualified = some x → r.work.qualified = some x ∧ r.work.run = 0) ∧
    (w.qualified = some (!x) → w.run + 1 ≤ qualCountOf e → r.work.qualified = some (!x) ∧ r.work.run = w.run + 1) ∧
    (w.qualified = some (!x) → qualCountOf e < w.run + 1 → r.work.qualified = some x ∧ r.work.run = 0) ∧
    (w.force = none → ∀ q, r.work.qualified = some q → publishedValue e r prev = if q then 1 else 0) := by
  refine ⟨fun hq => ?_, fun hq => ?_, fun hq hr => ?_, fun hq hr => ?_, fun hf q => ?_⟩
  · rw [kindPath_binary_first hk hq]; exact ⟨rfl, rfl⟩
  · rw [kindPath_binary_same hk hq]; exact ⟨hq, rfl⟩
  · rw [kindPath_binary_run hk hq hr]; exact ⟨hq, rfl⟩
  · rw [kindPath_binary_change hk hq hr]; exact ⟨rfl, rfl⟩
  · rcases qualified_cases w.qualified (binarySample e raw) with hq | hq | hq
    · rw [kindPath_binary_first hk hq, publishedValue_unforced hf]
      rintro ⟨⟩; rfl
    · rw [kindPath_binary_same hk hq, publishedValue_unforced hf]
      rintro h; cases hq.symm.trans h; rfl
    · rcases Nat.lt_or_ge (qualCountOf e) (w.run + 1) with hr | hr
      · rw [kindPath_binary_change hk hq hr, publishedValue_unforced hf]
        rintro ⟨⟩; rfl
      · rw [kindPath_binary_run hk hq hr, publishedValue_unforced hf]
        rintro h; cases hq.symm.trans h
        cases binarySample e raw <;> rfl

theorem kept_seen (w : PointWork) (sl : Slot) :
    (w.seen sl).kept = if w.condition = .stale ∨ w.condition = .bad then [] else w.history := by
  simp only [PointWork.kept, PointWork.seen, condition_lost_iff]

theorem evaluate_seen (e : PointEntry) (sl : Slot) (w : PointWork) :
    (evaluate e (some sl) w).work.toggle = some sl.toggle ∧
      (evaluate e (some sl) w).work.age = if w.toggle = some sl.toggle then min 65535 (w.age + 1) else 0 := by
  rw [← nextAge_some]
  cases hf : sl.fault with
  | true => rw [evaluate_fault hf]; exact ⟨rfl, rfl⟩
  | false =>
    rcases Nat.lt_or_ge (nextAge w (some sl)) (staleLimitOf e) with ha | ha
    · rw [evaluate_fresh hf ha]
      obtain ⟨hage, htoggle, -⟩ := kindPath_frame e sl.raw (w.seen sl)
      exact ⟨htoggle, hage⟩
    · rw [evaluate_stale hf ha]; exact ⟨rfl, rfl⟩

/-- What a sample that reaches the kind path makes of a point (R7 to R11). -/
theorem evaluate_fresh_rules (hf : sl.fault = false) (ha : nextAge w (some sl) < staleLimitOf e) (prev : PointOut) :
    let ev := evaluate e (some sl) w
    ev.work.condition =
      (if pointKind e = .analog ∧ (rangeClamp e (scaleRaw e sl.raw)).2 = true then .clamped else .good) ∧
    (pointKind e ≠ .analog → ev.work.released = false) ∧
    (pointKind e = .analog →
      (w.force ≠ none → ev.work.history = (w.seen sl).kept ∧ ev.work.released = w.released) ∧
      (w.force = none → ev.work.released = false ∧
        ev.work.history =
          joinHistory (depthOf e) (if w.released then [] else (w.seen sl).kept) (rangeClamp e (scaleRaw e sl.raw)).1 ∧
        publishedValue e ev prev = filterOutput ev.work.history ∧ ev.work.history ≠ [])) ∧
    (pointKind e = .binary →
      let x := binarySample e sl.raw
      (w.qualified = none → ev.work.qualified = some x ∧ ev.work.run = 0) ∧
      (w.qualified = some x → ev.work.qualified = some x ∧ ev.work.run = 0) ∧
      (w.qualified = some (!x) → w.run + 1 ≤ qualCountOf e →
        ev.work.qualified = some (!x) ∧ ev.work.run = w.run + 1) ∧
      (w.qualified = some (!x) → qualCountOf e < w.run + 1 → ev.work.qualified = some x ∧ ev.work.run = 0) ∧
      (w.force = none → ∀ q, ev.work.qualified = some q → publishedValue e ev prev = if q then 1 else 0)) ∧
    (pointKind e = .counter → w.force = none → publishedValue e ev prev = sl.raw.toNat) := by
  rw [evaluate_fresh hf ha]
  obtain ⟨-, -, -, -, hcond, hrel⟩ := kindPath_frame e sl.raw (w.seen sl)
  refine ⟨?_, hrel, fun hk => kindPath_analog_history hk sl.raw (w.seen sl) prev,
    fun hk => kindPath_binary_qualified hk sl.raw (w.seen sl) prev, fun hk hw => ?_⟩
  · rw [hcond, clampCondition, ite_and]
  · have hw : (w.seen sl).force = none := hw
    rw [kindPath_counter hk, publishedValue_unforced hw]
    rfl

/-- Settles O60: outside the kind path a point is held (`evaluate_of_lost`), inside it the rules of its kind hold
(`evaluate_fresh_rules`). -/
theorem acceptedFramePublishesEveryPoint : Obligations.AcceptedFramePublishesEveryPoint := by
  intro sample s t
  refine ⟨fun h => piuWork_config h sample, fun h => ⟨?_, ?_, fun i => ?_⟩⟩
  · simp only [t, piuWork_run h]
  · refine (congrArg State.rgi (piuWork_run h sample)).trans
      (congrArg (List.foldl enqueue s.rgi) (List.filterMap_congr fun i _ => ?_))
    simp only [t, piuWork_work h, pointOfFrame_event]
    split <;> rfl
  intro e w prev v out lost
  have hv : v = (pointOfFrame s sample i).work := piuWork_work h sample i
  have hout : out = (pointOfFrame s sample i).out := piuWork_image h sample i
  refine ⟨fun hu => ?_, fun hu => ?_⟩
  · rw [hv, hout, pointOfFrame_notInUse hu]
    exact ⟨rfl, rfl⟩
  rw [pointOfFrame_inUse hu] at hv hout
  have hlost : lost ↔ (evaluate e (sample (slotOf e)) w).work.condition.lost = true := by
    rw [condition_lost_iff]
    simp only [lost, hv]
    rfl
  have hedge := edgeRecorded_iff e (sample (slotOf e)) w prev
  clear_value v out lost
  subst hv hout
  refine ⟨evaluate_force _ _ _, rfl, rfl, fun hs => ?_, fun sl hs => ?_, fun hl => ?_, fun f hf => ?_, fun hf => ?_, hedge,
    fun hn => if_pos hn, fun hn => ?_⟩
  · rw [hs]
    exact ⟨rfl, rfl, nextAge_none w⟩
  · rw [hs]
    obtain ⟨htoggle, hage⟩ := evaluate_seen e sl w
    refine ⟨htoggle, hage, fun hf => ?_, fun hf ha => ?_, fun hf ha => ?_⟩
    · exact congrArg (·.work.condition) (evaluate_fault hf)
    · have ha : staleLimitOf e ≤ nextAge w (some sl) := by
        rw [nextAge_some, ← hage]; exact ha
      exact congrArg (·.work.condition) (evaluate_stale hf ha)
    · have ha : nextAge w (some sl) < staleLimitOf e := by
        rw [nextAge_some, ← hage]; exact ha
      obtain ⟨hcond, hrel, hanalog, hbinary, hcounter⟩ := evaluate_fresh_rules hf ha prev
      refine ⟨hcond, hrel, fun hk => ?_, hbinary, hcounter⟩
      obtain ⟨hforced, hfree⟩ := hanalog hk
      rw [kept_seen] at hforced hfree
      refine ⟨hforced, fun hw => ?_⟩
      obtain ⟨hr, hjoin, hvalue, hne⟩ := hfree hw
      refine ⟨hr, hjoin, ?_⟩
      have hnear := filterOutput_nearest hne
      rw [← hvalue] at hnear
      exact hnear
  · obtain ⟨_, _, _, hev⟩ := evaluate_of_lost e (sample (slotOf e)) w (hlost.mp hl)
    refine ⟨congrArg (·.work.history) hev, congrArg (·.work.released) hev, congrArg (·.work.qualified) hev,
      congrArg (·.work.run) hev, fun hf => ?_⟩
    have hf' := (evaluate_force e (sample (slotOf e)) w).trans hf
    refine (publishedValue_unforced hf' prev).trans ?_
    rw [hev]
    rfl
  · have hf' := (evaluate_force e (sample (slotOf e)) w).trans hf
    exact ⟨publishedQuality_forced hf', publishedValue_forced hf' prev⟩
  · have hf' := (evaluate_force e (sample (slotOf e)) w).trans hf
    exact publishedQuality_unforced hf'
  · exact if_neg (Bool.eq_false_iff.mp hn)

end Machine
end Sys2Proof
end

section
/-! SUPPORT. The telegrams and the single happenings of the point intake unit. -/

namespace Sys2Proof
namespace Machine

theorem exec_pointRead (tag : Byte) (first last : Half) (s : State) :
    exec (.pointRead tag first last) s = .next (answerAlone 7 tag (takePointRead first last s)) := rfl
theorem exec_pointForce (tag : Byte) (point : Half) (value : Word) (s : State) :
    exec (.pointForce tag point value) s = .next (answerAlone 8 tag (takePointForce point value s)) := rfl
theorem exec_pointRelease (tag : Byte) (point : Half) (s : State) :
    exec (.pointRelease tag point) s = .next (answerAlone 9 tag (takePointRelease point s)) := rfl
theorem exec_pointStale (i : Fin 256) (sample : Slot) (s : State) :
    exec (.pointStale i sample) s =
      .next (if goesStale s i sample then evaluateAlone s i (resultOf s i sample) else s) := rfl
theorem exec_binaryQualifiedChange (i : Fin 256) (sample : Slot) (s : State) :
    exec (.binaryQualifiedChange i sample) s =
      .next (if qualifiesChange s i sample then evaluateAlone s i (resultOf s i sample) else s) := rfl

/-! ## POINT_READ (R17, R197) -/

theorem pointReadCount_none {first last : Half} (h : min last.toNat 255 < first.toNat) :
    pointReadCount first last = none := if_pos h

theorem pointReadCount_some {first last : Half} (h : first.toNat ≤ min last.toNat 255) :
    pointReadCount first last = some (min (min last.toNat 255 - first.toNat + 1) 8) := if_neg (not_lt.mpr h)

@[simp] theorem pointBytes_length (p : PointOut) : (pointBytes p).length = 7 := rfl

/-! Blocks of one length laid end to end: the length of the whole, and the k-th block found again. -/

theorem length_flatMap_range {α : Type} {m : Nat} (g : Nat → List α) (hg : ∀ k, (g k).length = m) (n : Nat) :
    ((List.range n).flatMap g).length = m * n := by
  simp [List.length_flatMap, hg, mul_comm]

theorem take_drop_flatMap_range {α : Type} {m : Nat} (g : Nat → List α) (hg : ∀ k, (g k).length = m) {n k : Nat}
    (hk : k < n) : (((List.range n).flatMap g).drop (m * k)).take m = g k := by
  obtain ⟨r, rfl⟩ : ∃ r, n = k + (1 + r) := ⟨n - k - 1, by omega⟩
  rw [List.range_add, List.flatMap_append, List.drop_left' (length_flatMap_range g hg k), List.range_add,
    List.map_append, List.flatMap_append]
  have hone : ((List.range 1).map (k + ·)).flatMap g = g k := by simp
  rw [hone]
  exact List.take_left' (hg k)

/-- The k-th point of a POINT_READ as the reply carries it (R197). -/
def pointBlock (s : State) (first k : Nat) : List Byte :=
  pointBytes (s.piu.image.get (indexIn 256 (by decide) (first + k)))

theorem pointBlock_length (s : State) (first k : Nat) : (pointBlock s first k).length = 7 := pointBytes_length _

theorem pointBlock_eq (s : State) {first k i : Nat} (hi : i < 256) (h : i = first + k) :
    pointBlock s first k = pointBytes (s.piu.image.get ⟨i, hi⟩) := by
  subst h
  rw [pointBlock, indexIn, dif_pos hi]

theorem takePointRead_refused {first last : Half} (h : min last.toNat 255 < first.toNat) (s : State) :
    takePointRead first last s = (s, plain .refusedRange) := by
  rw [takePointRead, pointReadCount_none h]

theorem takePointRead_done {first last : Half} (h : first.toNat ≤ min last.toNat 255) (s : State) :
    takePointRead first last s =
      let n := min (min last.toNat 255 - first.toNat + 1) 8
      (s, { status := .done, payload := nat8 n ++ (List.range n).flatMap (pointBlock s first.toNat) }) := by
  rw [takePointRead, pointReadCount_some h]
  rfl

/-- Settles O20: the payload is one block of seven bytes for each point. -/
theorem pointReadReturnsUpToEightPoints : Obligations.PointReadReturnsUpToEightPoints := by
  intro tag first last s
  rw [exec_pointRead]
  refine ⟨fun h => by rw [takePointRead_refused h]; rfl, fun n h hn => ?_⟩
  rw [takePointRead_done h, ← hn]
  have hlen := pointBlock_length s first.toNat
  refine ⟨(List.range n).flatMap (pointBlock s first.toNat), rfl, length_flatMap_range _ hlen n, fun k i hi hk hik => ?_⟩
  rw [take_drop_flatMap_range _ hlen hk, pointBlock_eq s hi hik, pointBytes]

/-! ## POINT_FORCE and POINT_RELEASE (R15, R16) -/

section
variable {point : Half} {value : Word} {s : State} {i : Fin 256}

theorem takePointForce_noPoint (h : 256 ≤ point.toNat) : takePointForce point value s = (s, plain .refusedRange) :=
  dif_neg (not_lt.mpr h)

theorem takePointRelease_noPoint (h : 256 ≤ point.toNat) : takePointRelease point s = (s, plain .refusedRange) :=
  dif_neg (not_lt.mpr h)

theorem takePointForce_point (h : point.toNat = i.val) :
    takePointForce point value s =
      if ¬ s.running ∨ ¬ yes (s.tables.points.get i).inUse then (s, plain .refusedState)
      else if ¬ forceInRange (s.tables.points.get i) value.toInt then (s, plain .refusedRange)
      else (s.withPointWork i { s.piu.work.get i with force := some value.toInt }, plain .done) := by
  have hlt : point.toNat < 256 := h ▸ i.isLt
  obtain rfl : (⟨point.toNat, hlt⟩ : Fin 256) = i := Fin.ext h
  exact dif_pos hlt

theorem takePointRelease_point (h : point.toNat = i.val) :
    takePointRelease point s =
      if (s.piu.work.get i).force.isNone then (s, plain .refusedState)
      else (s.withPointWork i { s.piu.work.get i with force := none, released := true }, plain .done) := by
  have hlt : point.toNat < 256 := h ▸ i.isLt
  obtain rfl : (⟨point.toNat, hlt⟩ : Fin 256) = i := Fin.ext h
  exact dif_pos hlt

end

/-- The range of a force value by the kind of its point (R15). -/
theorem forceInRange_iff (e : PointEntry) (v : Int) :
    forceInRange e v = true ↔
      (pointKind e = .binary ∧ (v = 0 ∨ v = 1)) ∨ (pointKind e = .counter ∧ 0 ≤ v ∧ v ≤ 65535) ∨
        (pointKind e = .analog ∧ -32768 ≤ v ∧ v ≤ 65535) := by
  unfold forceInRange
  cases pointKind e <;> simp

/-- Settles O21: the first case of each telegram that holds. -/
theorem forceIsStoredAndReleased : Obligations.ForceIsStoredAndReleased := by
  intro tag point value s
  rw [exec_pointForce, exec_pointRelease]
  refine ⟨fun h => ?_, fun i hi => ?_⟩
  · rw [takePointForce_noPoint h, takePointRelease_noPoint h]
    exact ⟨rfl, rfl⟩
  rw [takePointForce_point hi, takePointRelease_point hi]
  refine ⟨fun h => ?_, fun hr hu hv => ?_, fun hr hu hv => ?_, fun h => ?_, fun h => ?_⟩
  · rw [if_pos (by simpa using h)]
    rfl
  · have hf : ¬ forceInRange (s.tables.points.get i) value.toInt = true := by
      rw [forceInRange_iff]
      rcases hv with ⟨hk, _, _⟩ | ⟨hk, _⟩ | ⟨hk, _⟩ <;> simp [hk] <;> omega
    rw [if_neg (by simp [hr, hu]), if_pos hf]
    rfl
  · rw [if_neg (by simp [hr, hu]), if_neg (not_not.mpr ((forceInRange_iff _ _).mpr hv))]
    rfl
  · rw [if_pos (by simp [h])]
    rfl
  · rw [if_neg (by simpa using h)]
    rfl

/-! ## POINT_STALE (R5) and BINARY_QUALIFIED_CHANGE (R11) -/

/-- A sample at fault, or one whose toggle is new, does not make a point STALE. -/
theorem evaluate_not_stale (e : PointEntry) (sl : Slot) (w : PointWork)
    (h : sl.fault = true ∨ w.toggle ≠ some sl.toggle) : (evaluate e (some sl) w).work.condition ≠ .stale := by
  cases hf : sl.fault with
  | true => rw [evaluate_fault hf]; exact Condition.noConfusion
  | false =>
    have ht : w.toggle ≠ some sl.toggle := h.resolve_left (by simp [hf])
    have ha : nextAge w (some sl) < staleLimitOf e := by
      rw [nextAge_some, if_neg ht]
      exact staleLimit_pos e
    rw [evaluate_fresh hf ha]
    intro hc
    have hl := kindPath_not_lost e sl.raw (w.seen sl)
    rw [hc] at hl
    exact absurd hl (by decide)

theorem resultOf_condition (s : State) (i : Fin 256) (sl : Slot) :
    (resultOf s i sl).work.condition =
      (evaluate (s.tables.points.get i) (some sl) (s.piu.work.get i)).work.condition := rfl

/-- An unforced point whose evaluation gives no value publishes the held one, with the last edge (R3, R12). -/
theorem evaluatePoint_held {e : PointEntry} {sample : Option Slot} {w : PointWork}
    (hv : (evaluate e sample w).value = none) (hf : w.force = none) (c rt : Nat) (prev : PointOut) :
    evaluatePoint e sample c rt w prev =
      { work := { (evaluate e sample w).work with edge := w.edge }
        out := { value := prev.value, quality := publishedQuality (evaluate e sample w).work,
                 age := (evaluate e sample w).work.age, edge := w.edge, newEdge := false }
        event := qualityEvent w.condition (evaluate e sample w).work.condition } := by
  have hval : publishedValue e (evaluate e sample w) prev = prev.value := by
    rw [publishedValue_unforced ((evaluate_force e sample w).trans hf), hv]
    rfl
  have hedge : edgeRecorded e (evaluate e sample w) prev = false := by simp [edgeRecorded, hval]
  simp [evaluatePoint, hval, hedge]

/-- A point whose published value changes other than by seeding records the edge (R12). -/
theorem evaluatePoint_edge {e : PointEntry} {sample : Option Slot} {w : PointWork} {prev : PointOut}
    (h : edgeRecorded e (evaluate e sample w) prev = true) (c rt : Nat) :
    evaluatePoint e sample c rt w prev =
      let value := publishedValue e (evaluate e sample w) prev
      let edge := some { rising := decide (prev.value < value), cycle := c, runTime := rt }
      { work := { (evaluate e sample w).work with edge := edge }
        out := { value := value, quality := publishedQuality (evaluate e sample w).work,
                 age := (evaluate e sample w).work.age, edge := edge, newEdge := true }
        event := qualityEvent w.condition (evaluate e sample w).work.condition } := by
  simp [evaluatePoint, h]

/-- Settles O22: the sample that reaches the stale limit ends the evaluation at the stale check. -/
theorem stalePointHoldsItsValue : Obligations.StalePointHoldsItsValue := by
  intro i sl s e w
  rw [exec_pointStale]
  refine ⟨fun hrun huse hc hforce ht hf ha => ?_, fun h => ?_⟩
  · have hage : nextAge w (some sl) = min 65535 (w.age + 1) := by rw [nextAge_some, if_pos ht]
    have hev := evaluate_stale (w := w) hf (hage ▸ ha)
    have hres : resultOf s i sl =
        { work := { w with condition := .stale, age := min 65535 (w.age + 1), run := 0 }
          out := { value := (s.piu.image.get i).value, quality := .stale, age := min 65535 (w.age + 1), edge := w.edge,
                   newEdge := false }
          event := some (256 * w.condition.code + 2) } := by
      refine (evaluatePoint_held (by rw [hev]) hforce _ _ _).trans ?_
      rw [hev, qualityEvent_eq, if_pos ⟨hc, .inr (.inr (.inl rfl))⟩]
      simp only [PointWork.seen, hage, ← ht, publishedQuality, hforce]
      rfl
    have hgoes : goesStale s i sl = true := by
      unfold goesStale
      rw [hres]
      simp [hrun, huse, hc, e, w]
    rw [if_pos hgoes, hres]
    rfl
  · have hs : goesStale s i sl = false := by
      have hc := evaluate_not_stale e sl w (by rcases h with h | h | h <;> simp [h])
      rw [← resultOf_condition] at hc
      simp [goesStale, hc]
    rw [hs]
    rfl

/-- Settles O23: the sample is fresh and ends the run, so the value changes other than by seeding. -/
theorem qualifiedChangeRecordsAnEdge : Obligations.QualifiedChangeRecordsAnEdge := by
  intro i sl q s e w hrun huse hk hq hforce hcond hf ht hx hcount hprev
  have hage : nextAge w (some sl) = 0 := by rw [nextAge_some, ht]; simp
  have hsample : binarySample e sl.raw = !q := hx
  have hev : evaluate e (some sl) w =
      { work := { w.seen sl with condition := .good, released := false, qualified := some (!q), run := 0 }
        value := some (if q then 0 else 1), seeded := false } := by
    rw [evaluate_fresh hf (hage ▸ staleLimit_pos e),
      kindPath_binary_change hk (by simpa [hsample, PointWork.seen] using hq) (by simp [PointWork.seen, hcount]), hsample]
    cases q <;> rfl
  have hvalue : publishedValue e (evaluate e (some sl) w) (s.piu.image.get i) = if q then 0 else 1 := by
    rw [publishedValue_unforced ((evaluate_force _ _ _).trans hforce), hev]
    rfl
  have hedge : edgeRecorded e (evaluate e (some sl) w) (s.piu.image.get i) = true := by
    rw [edgeRecorded_iff, hvalue, hprev]
    refine ⟨hk, by cases q <;> decide, fun h => ?_⟩
    simp [hq] at h
  have hres : resultOf s i sl =
      { work := { w.seen sl with
          condition := .good, released := false, qualified := some (!q), run := 0
          edge := some { rising := !q, cycle := s.rgi.cycleNow, runTime := s.rgi.runTime } }
        out := { value := if q then 0 else 1, quality := .good, age := 0
                 edge := some { rising := !q, cycle := s.rgi.cycleNow, runTime := s.rgi.runTime }, newEdge := true }
        event := none } := by
    refine (evaluatePoint_edge hedge _ _).trans ?_
    rw [hvalue, hprev, hev, hcond]
    simp only [publishedQuality, PointWork.seen, hforce, hage]
    cases q <;> rfl
  have hchange : qualifiesChange s i sl = true := by
    unfold qualifiesChange
    rw [hres, hq]
    cases q <;> simp [hrun, huse, hk, e]
  rw [exec_binaryQualifiedChange, if_pos hchange, hres]
  refine ⟨_, rfl, rfl, ?_, ?_, ?_, fun j hj => ?_⟩
  · exact get_set_same _ _ _
  · exact congrArg PointWork.qualified (get_set_same _ _ _)
  · exact congrArg PointWork.run (get_set_same _ _ _)
  · exact ⟨get_set_other _ hj _, get_set_other _ hj _⟩

end Machine
end Sys2Proof
end

section
/-! SUPPORT. Frames that are not accepted (R13, R177), and the order of an accepted frame's happenings. -/

namespace Sys2Proof
namespace Machine

theorem exec_cycleFrameArrival (f : List Byte) (s : State) :
    exec (.cycleFrameArrival f) s = .next (handleFrame (Config.workOrder s.free) f s) := rfl

/-! ## Classification (R177) -/

theorem classify_failed {f : List Byte} (h : frameGood f = false) (s : State) : classify s f = .failed := by
  simp [classify, h]

theorem classify_duplicate {f : List Byte} {s : State} (h : frameGood f = true)
    (hc : s.rgi.lastCycle = some (frameCycle f)) : classify s f = .duplicate := by
  have hd : cycleDiff s f = 0 := by
    rw [cycleDiff, hc]
    simp
  simp [classify, h, hc, hd]

theorem handleFrame_failed {f : List Byte} {s : State} (h : classify s f = .failed) (picks : List Nat) :
    handleFrame picks f s = failFrame s f := by
  rw [handleFrame, h]

theorem handleFrame_duplicate {f : List Byte} {s : State} (h : classify s f = .duplicate) (picks : List Nat) :
    handleFrame picks f s = passFrame s f := by
  rw [handleFrame, h]

/-! ## The image of a failed frame (R13) -/

theorem failedImage_config {s : State} (h : s.running = false) : failedImage s = s := by simp [failedImage, h]

theorem failedImage_run {s : State} (h : s.running = true) :
    failedImage s =
      s.withPiu { s.piu with
        image := tabulate 256 fun i =>
          if yes (s.tables.points.get i).inUse then { s.piu.image.get i with quality := .bad, newEdge := false }
          else pointNotInUse } := if_pos h

/-- A failed frame changes the image alone. -/
theorem failedImage_frame (s : State) : failedImage s = s.withPiu (failedImage s).piu := by
  cases h : s.running with
  | false => rw [failedImage_config h]; rfl
  | true => rw [failedImage_run h, State.withPiu_piu]

theorem failedImage_work (s : State) : (failedImage s).piu.work = s.piu.work := by
  cases h : s.running with
  | false => rw [failedImage_config h]
  | true => rw [failedImage_run h, State.withPiu_piu]

/-- Settles O5: a failed frame is `failFrame`, whose image is `failedImage`'s, and a duplicate is passed on. -/
theorem framesNotAcceptedAreForwarded : Obligations.FramesNotAcceptedAreForwarded := by
  refine ⟨fun f s hf => ?_, fun f s hf hc => ?_⟩
  · rw [exec_cycleFrameArrival, handleFrame_failed (classify_failed hf s)]
    refine ⟨failFrame s f, rfl, ?_, failedImage_work s, fun hr => ?_, fun hr i => ⟨fun hu => ?_, fun hu => ?_⟩⟩
    · change ((failedImage s).withReplies []).withDownstream (markInvalid f) = _
      rw [failedImage_frame]
      rfl
    · change (failedImage s).piu.image = _
      rw [failedImage_config hr]
    · change (failedImage s).piu.image.get i = _
      rw [failedImage_run hr, State.withPiu_piu, tabulate_get, if_pos hu]
    · change (failedImage s).piu.image.get i = _
      rw [failedImage_run hr, State.withPiu_piu, tabulate_get, if_neg (by simp [hu])]
      rfl
  · rw [exec_cycleFrameArrival, handleFrame_duplicate (classify_duplicate hf hc)]
    rfl

/-! ## The order of an accepted frame (R2, R40, R59, R84, R105, R132, R143, R161, R182, R191) -/

/-- While anything is to come, the next of a frame's happenings is a block's work or the act in front (log 2). -/
theorem frameOrder_cases (n : Nat) (picks : List Nat) (blocks : List BlockId) (acts : List FrameItem)
    (hn : n + 1 = blocks.length + acts.length) :
    (∃ i, ∃ h : i < blocks.length, frameOrder (n + 1) picks blocks acts =
      .work blocks[i] :: frameOrder n picks.tail (blocks.eraseIdx i) acts) ∨
    (∃ a rest, acts = a :: rest ∧ frameOrder (n + 1) picks blocks acts = a :: frameOrder n picks.tail blocks rest) := by
  cases acts with
  | nil =>
    have hlt : picks.headD 0 % (blocks.length + 0) < blocks.length :=
      Nat.mod_lt _ (by simp only [List.length_nil] at hn; omega)
    exact .inl ⟨_, hlt, dif_pos hlt⟩
  | cons a rest =>
    by_cases hlt : picks.headD 0 % (blocks.length + 1) < blocks.length
    · exact .inl ⟨_, hlt, dif_pos hlt⟩
    · exact .inr ⟨a, rest, rfl, dif_neg hlt⟩

/-- A frame order holds each block's work and each act once, whatever the picks. -/
theorem frameOrder_perm (n : Nat) (picks : List Nat) (blocks : List BlockId) (acts : List FrameItem)
    (hn : n = blocks.length + acts.length) :
    (frameOrder n picks blocks acts).Perm (blocks.map .work ++ acts) := by
  induction n generalizing picks blocks acts with
  | zero =>
    obtain ⟨hb, ha⟩ := Nat.add_eq_zero_iff.mp hn.symm
    rw [List.length_eq_zero_iff.mp hb, List.length_eq_zero_iff.mp ha]
    exact .nil
  | succ n ih =>
    rcases frameOrder_cases n picks blocks acts hn with ⟨i, hi, h⟩ | ⟨a, rest, rfl, h⟩
    · rw [h]
      have hlen := List.length_eraseIdx_of_lt hi
      refine ((ih _ _ _ (by omega)).cons _).trans ?_
      exact ((List.getElem_cons_eraseIdx_perm hi).map FrameItem.work).append_right acts
    · rw [h]
      simp only [List.length_cons] at hn
      exact ((ih _ _ _ (by omega)).cons a).trans List.perm_middle.symm

/-- The acts of the ring stand in a frame order as they were given, whatever the picks. -/
theorem frameOrder_filter (p : FrameItem → Bool) (hw : ∀ b, p (.work b) = false) (n : Nat) (picks : List Nat)
    (blocks : List BlockId) (acts : List FrameItem) (hn : n = blocks.length + acts.length) (ha : ∀ a ∈ acts, p a = true) :
    (frameOrder n picks blocks acts).filter p = acts := by
  induction n generalizing picks blocks acts with
  | zero =>
    obtain ⟨-, hacts⟩ := Nat.add_eq_zero_iff.mp hn.symm
    rw [List.length_eq_zero_iff.mp hacts]
    rfl
  | succ n ih =>
    rcases frameOrder_cases n picks blocks acts hn with ⟨i, hi, h⟩ | ⟨a, rest, rfl, h⟩
    · rw [h, List.filter_cons_of_neg (by simp [hw])]
      have hlen := List.length_eraseIdx_of_lt hi
      exact ih _ _ _ (by omega) ha
    · rw [h, List.filter_cons_of_pos (ha a List.mem_cons_self)]
      simp only [List.length_cons] at hn
      rw [ih _ _ _ (by omega) fun b hb => ha b (List.mem_cons_of_mem a hb)]

/-- Settles O6: `frameItems` is a frame order of all blocks and of the acts of the ring. -/
theorem frameOrderIsOneOfThoseAllowed : Obligations.FrameOrderIsOneOfThoseAllowed := by
  intro picks f
  refine ⟨frameOrder_perm _ picks allBlocks (ringActs f) rfl, ?_⟩
  refine frameOrder_filter _ (fun b => rfl) _ picks allBlocks (ringActs f) rfl fun a ha => ?_
  rcases List.mem_append.mp ha with hw | he
  · obtain ⟨w, -, rfl⟩ := List.mem_map.mp hw
    rfl
  · rw [List.mem_singleton.mp he]

end Machine
end Sys2Proof
end

section
/-! SUPPORT. Power-on: the values after reset (R19, R21, R37, R54, R83, R103, R128, R140, R158, R176, R192). -/

namespace Sys2Proof
namespace Machine

theorem exec_powerOn (pins : BitVec 7) (s : State) : exec (.powerOn pins) s = .next (powerOnState pins s) := rfl

/-! ## Empty entries are all zeros (R21, R37) -/

@[simp] theorem halfBytes_zero : halfBytes 0#16 = [0, 0] := by decide
@[simp] theorem wordBytes_zero : wordBytes 0#32 = [0, 0, 0, 0] := by decide
@[simp] theorem longBytes_zero : longBytes 0#64 = [0, 0, 0, 0, 0, 0, 0, 0] := by decide

theorem padTo_zero {bs : List Byte} (h : ∀ x ∈ bs, x = 0) (n : Nat) : ∀ x ∈ padTo n bs, x = 0 := by
  intro x hx
  rcases List.mem_append.mp hx with hx | hx
  · exact h x hx
  · exact List.eq_of_mem_replicate hx

theorem bytesAt_replicate_zero {α : Type} {n : Nat} {e : α} {enc : α → List Byte} (h : ∀ x ∈ enc e, x = 0) (i : Nat) :
    ∀ x ∈ bytesAt (Vector.replicate n e) enc i, x = 0 := by
  unfold bytesAt
  split
  · rwa [replicate_get]
  · simp

theorem encodeCombustion_zero : ∀ x ∈ encodeCombustion emptyCombustion, x = 0 := by
  simp [encodeCombustion, emptyCombustion]

theorem encodeEmission_zero : ∀ x ∈ encodeEmission emptyEmission, x = 0 :=
  padTo_zero (by simp [emptyEmission]) _

theorem emptyBank_entryBytes (t i : Nat) : ∀ x ∈ emptyBank.entryBytes t i, x = 0 := by
  unfold Bank.entryBytes
  split
  · exact padTo_zero (by simp [emptyBank]) _
  · exact encodeCombustion_zero
  · exact encodeCombustion_zero
  · exact padTo_zero (by simp [emptyBank]) _
  · exact padTo_zero (by simp [emptyBank]) _
  · exact encodeEmission_zero
  · exact encodeEmission_zero
  · exact padTo_zero (by simp [emptyBank, emptyDosingLine, encodeDosingLine]) _
  · exact bytesAt_replicate_zero (by simp [encodePoint, emptyPoint]) _
  · exact bytesAt_replicate_zero (by simp [encodeOutput, emptyOutput]) _
  · exact bytesAt_replicate_zero (by simp [encodePair]) _
  · exact bytesAt_replicate_zero (by simp [encodeTrip]) _
  · exact bytesAt_replicate_zero (by simp [encodeGroup, emptyGroup, encodeOverride]) _
  · exact bytesAt_replicate_zero (by simp [encodeLoop, emptyLoop]) _
  · exact bytesAt_replicate_zero (by simp [encodeStep, emptyStep]) _
  · exact bytesAt_replicate_zero (by simp [encodeBlock]) _
  · exact bytesAt_replicate_zero (by simp [encodeComponent, emptyComponent]) _
  · simp

theorem reset_bank (n : BankId) : State.reset.tbs.bank n = emptyBank := by cases n <;> rfl

/-! ## Blocks after reset -/

theorem reset_point (i : Fin 256) :
    State.reset.piu.image.get i = pointNotInUse ∧ State.reset.piu.work.get i = pointWorkEmpty :=
  ⟨replicate_get _ i, replicate_get _ i⟩

theorem reset_loop (i : Fin 12) :
    State.reset.lpe.loops.get i =
      { operator := .auto, mode := .auto, u := 0, r := 0, ePrev := none, published := 0 } := replicate_get _ i

theorem reset_gsq (l : Line) : State.reset.gsq.get l = gsqReset := by cases l <;> rfl
theorem reset_lsv (l : Line) : State.reset.lsv.get l = lsvReset := by cases l <;> rfl
theorem reset_eauLine (l : Line) : State.reset.eau.lines.get l = eauLineReset := by cases l <;> rfl
theorem reset_rduLine (l : Line) : State.reset.rdu.lines.get l = rduLineReset := by cases l <;> rfl

theorem instReset_get (k : Fin 6) : instReset.get k = { value := 0, flag := .inputInvalid, lastValid := 0 } :=
  replicate_get _ k
theorem accEmpty_get (k : Fin 6) : accEmpty.get k = { sum := 0, valid := 0, operating := 0, nonOperating := 0 } :=
  replicate_get _ k
theorem dayAccEmpty_get (k : Fin 6) : dayAccEmpty.get k = { sum := 0, valid := 0, counted := 0 } := replicate_get _ k

theorem reset_group (g : Fin 8) :
    State.reset.otu.groups.get g = { tripped := false, absentSince := none, level := false } ∧
      State.reset.otu.pubGroups.get g = false := ⟨replicate_get _ g, replicate_get _ g⟩

theorem reset_record (k : Fin 64) :
    State.reset.otu.records.get k = { last := none, acc := 0, dir := .none, zeroSince := none } ∧
      State.reset.otu.pub.get k = { source := 0, written := 0, back := 0, override := false, pending := false } :=
  ⟨replicate_get _ k, replicate_get _ k⟩

theorem reset_trip (i : Fin 32) : State.reset.otu.trips.get i = { lastEdge := none, latches := 0, takePresent := false } :=
  replicate_get _ i

/-- Settles O3: POWER_ON is the reset state with the pins, the queue and the counter; each block's clause is its reset value. -/
theorem powerOnPutsEveryBlockAtReset : Obligations.PowerOnPutsEveryBlockAtReset := by
  refine ⟨fun pins s => exec_powerOn pins s, ?_⟩
  refine ⟨?_, ⟨rfl, rfl, rfl, rfl, rfl, fun i => replicate_get _ i, fun n p _ => ?_⟩, fun i => ?_, fun i => ?_, fun l => ?_,
    fun l => ?_, ⟨rfl, fun l => ?_⟩, fun l => ?_, ?_, ⟨rfl, fun g => ?_, fun k => ?_, fun i => ?_, fun p => replicate_get _ p⟩⟩
  · exact ⟨rfl, rfl, rfl, rfl, rfl, rfl, rfl, rfl, rfl, rfl⟩
  · rw [reset_bank]
    exact emptyBank_entryBytes p.1 p.2
  · obtain ⟨himage, hwork⟩ := reset_point i
    rw [himage, hwork]
    exact ⟨rfl, rfl, rfl, rfl, rfl, rfl⟩
  · rw [reset_loop]
    exact ⟨rfl, rfl, rfl, rfl, rfl, rfl⟩
  · rw [reset_gsq]
    exact ⟨rfl, rfl, rfl, rfl, rfl, rfl, rfl, rfl, rfl, rfl⟩
  · rw [reset_lsv]
    exact ⟨rfl, rfl, rfl, rfl, rfl, rfl, rfl, rfl, rfl, rfl, rfl, rfl, rfl, rfl⟩
  · rw [reset_eauLine]
    exact ⟨rfl, rfl, rfl, rfl, rfl, rfl, rfl, rfl, fun j => replicate_get _ j, fun k =>
      ⟨instReset_get k, accEmpty_get k, dayAccEmpty_get k⟩⟩
  · rw [reset_rduLine]
    exact ⟨rfl, rfl, rfl, rfl, rfl, fun r => by cases r <;> rfl⟩
  · exact ⟨rfl, rfl, rfl, rfl, rfl, rfl, rfl, rfl, rfl, rfl, rfl, rfl, rfl, rfl, rfl, rfl⟩
  · obtain ⟨hgroup, hpub⟩ := reset_group g
    rw [hgroup, hpub]
    exact ⟨rfl, rfl, rfl⟩
  · obtain ⟨hrecord, hpub⟩ := reset_record k
    rw [hrecord, hpub]
    exact ⟨rfl, rfl, rfl, rfl, rfl⟩
  · rw [reset_trip]
    exact ⟨rfl, rfl⟩

end Machine
end Sys2Proof
end

section
/-! SUPPORT. A restart as it takes effect (R187). -/

namespace Sys2Proof
namespace Machine

theorem exec_restartTakesEffect (s : State) :
    exec .restartTakesEffect s = .next (if s.rgi.restartPending then restartPart s else s) := rfl

/-! ## The blocks at a restart -/

theorem restartPart_point (s : State) (i : Fin 256) :
    (restartPart s).piu.image.get i = pointNotInUse ∧ (restartPart s).piu.work.get i = pointWorkEmpty := reset_point i

theorem lpeRestart_loop (b : Bank) (p : Lpe) (i : Fin 12) :
    (lpeRestart b p).loops.get i =
      { p.loops.get i with
        operator := .auto, u := outMinOf (b.loops.get i), r := 0, ePrev := none
        published := outMinOf (b.loops.get i) } := tabulate_get _ i

theorem restartPart_gsq (s : State) (l : Line) : (restartPart s).gsq.get l = gsqReset := by cases l <;> rfl

theorem restartPart_lsv (s : State) (l : Line) : (restartPart s).lsv.get l = lsvRestart s.tables l := by
  cases l <;> rfl

theorem eauRestart_line (b : Bank) (e : Eau) (l : Line) :
    (eauRestart b e).lines.get l = eauLineRestart b l (e.lines.get l) := by cases l <;> rfl

theorem halfLatchOf_comp (b : Bank) (l : Line) (k : Fin 6) :
    (halfLatchOf b l).comps.get k =
      { limit := (componentEntry b l k).limit.toNat, minValid := minValidOf (componentEntry b l k)
        uncertainty := uncertaintyOf (componentEntry b l k) } := tabulate_get _ k

theorem dayLatchOf_comp (b : Bank) (l : Line) (k : Fin 6) :
    (dayLatchOf b l).get k =
      { limit := (componentEntry b l k).dailyLimit.toNat, dayMin := dayMinOf (componentEntry b l k) } := tabulate_get _ k

/-- Settles O11: `restartPart`, block by block. -/
theorem restartTakesEffectOnEveryBlock : Obligations.RestartTakesEffectOnEveryBlock := by
  intro s hp
  refine ⟨restartPart s, ?_, rfl, ⟨rfl, rfl, rfl, rfl, rfl, rfl, rfl, fun i => replicate_get _ i⟩, fun i => ?_, fun i => ?_,
    fun l => ?_, ⟨rfl, fun l => ?_⟩, rfl, rfl, rfl, rfl⟩
  · rw [exec_restartTakesEffect, if_pos hp]
  · obtain ⟨himage, hwork⟩ := restartPart_point s i
    rw [himage, hwork]
    exact ⟨rfl, rfl, rfl, rfl, rfl, rfl⟩
  · have hloop : (restartPart s).lpe.loops.get i = _ := lpeRestart_loop s.tables s.lpe i
    rw [hloop]
    exact ⟨rfl, rfl, rfl, rfl, rfl⟩
  · rw [restartPart_gsq, restartPart_lsv, reset_gsq]
    exact ⟨rfl, rfl, rfl, rfl, rfl, rfl, rfl, rfl⟩
  · have hline : (restartPart s).eau.lines.get l = _ := eauRestart_line s.tables s.eau l
    rw [hline]
    exact ⟨rfl, fun k => ⟨accEmpty_get k, instReset_get k⟩,
      ⟨_, rfl, rfl, rfl, halfLatchOf_comp s.tables l⟩, ⟨_, rfl, dayLatchOf_comp s.tables l⟩⟩

end Machine
end Sys2Proof
end

section
/-! SUPPORT. A bank swap as it takes effect (R18, R31, R53, R128, R157, R175). -/

namespace Sys2Proof
namespace Machine

theorem exec_bankSwapTakesEffect (s : State) :
    exec .bankSwapTakesEffect s =
      .next (if s.tbs.shadow = .swapPending ∧ ¬ s.rgi.restartPending then (swapBanks s).drawFree else s) := rfl

/-! ## The banks and the event (R31) -/

theorem Tbs.swap_activeBank (t : Tbs) : t.swap.activeBank = t.shadowBank := by
  cases h : t.active <;> simp [Tbs.activeBank, Tbs.shadowBank, Tbs.swap, Tbs.clearMarks, Tbs.bank, BankId.other, h]

theorem Tbs.swap_shadowBank (t : Tbs) : t.swap.shadowBank = t.activeBank := by
  cases h : t.active <;> simp [Tbs.activeBank, Tbs.shadowBank, Tbs.swap, Tbs.clearMarks, Tbs.bank, BankId.other, h]

theorem BankId.other_ne (n : BankId) : n.other ≠ n := by cases n <;> decide

/-! ## Points (R18) -/

theorem piuSwap_image (old new : Bank) (p : Piu) : (piuSwap old new p).image = p.image := by rw [piuSwap]

theorem piuSwap_point (old new : Bank) (p : Piu) (i : Fin 256) :
    (piuSwap old new p).work.get i = swapPoint (old.points.get i) (new.points.get i) (p.work.get i) := tabulate_get _ i

section
variable {old new : PointEntry}

theorem pointRemade_iff (old new : PointEntry) :
    pointRemade old new = true ↔
      slotOf old ≠ slotOf new ∨ pointKind old ≠ pointKind new ∨
        (pointKind new = .binary ∧ yes old.invert ≠ yes new.invert) := by
  simp [pointRemade, or_assoc]

theorem pointRescaled_iff (old new : PointEntry) :
    pointRescaled old new = true ↔
      old.rawLow ≠ new.rawLow ∨ old.rawHigh ≠ new.rawHigh ∨ engLowOf old ≠ engLowOf new ∨
        engHighOf old ≠ engHighOf new ∨ rangeLowOf old ≠ rangeLowOf new ∨ rangeHighOf old ≠ rangeHighOf new ∨
        depthOf old ≠ depthOf new := by
  simp [pointRescaled, or_assoc]

theorem swapPoint_remade (h : yes old.inUse = false ∨ yes new.inUse = false ∨ pointRemade old new = true) (w : PointWork) :
    swapPoint old new w = pointWorkEmpty := by
  refine if_pos ?_
  rcases h with h | h | h <;> simp [h]

theorem swapPoint_kept (ho : yes old.inUse = true) (hn : yes new.inUse = true) (h : ¬ pointRemade old new = true)
    (w : PointWork) :
    swapPoint old new w =
      { w with
        history := if pointRescaled old new then [] else w.history
        run := if qualCountOf old != qualCountOf new then 0 else w.run } := by
  refine if_neg ?_
  simp [ho, hn, h]

end

/-! ## Loops (R53) -/

theorem lpeSwap_loop (old new : Bank) (p : Lpe) (i : Fin 12) :
    (lpeSwap old new p).loops.get i = swapLoop old new i (p.loops.get i) := tabulate_get _ i

theorem limitOut_eq {e : LoopEntry} (h : outMinOf e ≤ outMaxOf e) (v : Int) :
    limitOut e v = max (outMinOf e) (min (outMaxOf e) v) := by
  unfold limitOut clampInt
  split
  · omega
  · split <;> omega

section
variable {old new : Bank} {i : Fin 12} (x : LoopRecord)

theorem swapLoop_outOfService (hn : yes (new.loops.get i).inService = false) : swapLoop old new i x = x := by
  simp [swapLoop, inService, hn]

theorem swapLoop_intoService (hn : yes (new.loops.get i).inService = true) (ho : yes (old.loops.get i).inService = false) :
    swapLoop old new i x =
      { x with operator := .auto, u := outMinOf (new.loops.get i), r := 0, ePrev := none } := by
  simp [swapLoop, inService, hn, ho]

/-- A loop in service in both banks, field by field. -/
theorem swapLoop_inService (hn : yes (new.loops.get i).inService = true) (ho : yes (old.loops.get i).inService = true) :
    let a := old.loops.get i
    let b := new.loops.get i
    let y := swapLoop old new i x
    y = { x with u := y.u, r := y.r, ePrev := y.ePrev } ∧
      y.u = (if outMinOf a ≠ outMinOf b ∨ outMaxOf a ≠ outMaxOf b then limitOut b x.u else x.u) ∧
      y.r = (if tiOf old a ≠ tiOf new b ∨ y.u ≠ x.u then 0 else x.r) ∧
      y.ePrev = (if a.pvPoint ≠ b.pvPoint ∨ loopReversed a ≠ loopReversed b then none else x.ePrev) := by
  simp only [swapLoop, inService, hn, ho, not_true, if_false]
  trivial

end

/-! ## Emissions (R128) -/

theorem latchEmissions_line (b : Bank) (e : Eau) (l : Line) :
    (latchEmissions b e).lines.get l = latchLine b l (e.lines.get l) := by cases l <;> rfl

/-! ## Outputs, pairs and trip entries (R175) -/

theorem outputRemade_iff (old new : OutputEntry) :
    outputRemade old new = true ↔
      old.window ≠ new.window ∨ old.source ≠ new.source ∨ old.rawLow ≠ new.rawLow ∨ old.rawHigh ≠ new.rawHigh ∨
        outputReversed old ≠ outputReversed new ∨ old.pairId ≠ new.pairId := by
  simp [outputRemade, or_assoc]

theorem pairRemade_iff (old new : PairEntry) :
    pairRemade old new = true ↔
      yes old.inUse ≠ yes new.inUse ∨ old.memberA ≠ new.memberA ∨ old.memberB ≠ new.memberB ∨
        intervalOf old ≠ intervalOf new := by
  simp [pairRemade, or_assoc]

section
variable (old new : Bank) (rt : Nat) (o : Otu)

theorem otuSwap_record (k : Fin 64) :
    (otuSwap old new rt o).records.get k =
      if outputRemade (old.outputs.get k) (new.outputs.get k) then
        { last := none, acc := 0, dir := .none, zeroSince := some rt }
      else o.records.get k := tabulate_get _ k

theorem otuSwap_pub (k : Fin 64) :
    (otuSwap old new rt o).pub.get k =
      if outputRemade (old.outputs.get k) (new.outputs.get k) then outPubNone else o.pub.get k := tabulate_get _ k

theorem otuSwap_conflict (p : Fin 16) :
    (otuSwap old new rt o).conflict.get p =
      if pairRemade (old.pairs.get p) (new.pairs.get p) then false else o.conflict.get p := tabulate_get _ p

theorem otuSwap_trip (i : Fin 32) :
    (otuSwap old new rt o).trips.get i =
      { o.trips.get i with
        latches := (o.trips.get i).latches &&& (new.trips.get i).targets
        takePresent := (o.trips.get i).takePresent || (old.trips.get i).point != (new.trips.get i).point } :=
  tabulate_get _ i

end

/-! ## The trip hold (R157) -/

theorem turbineTripped_iff (b : Bank) (pubGroups : Vector Bool 8) :
    turbineTripped b pubGroups = true ↔
      ∃ g : Fin 8, pubGroups.get g = true ∧ yes (b.groups.get g).turbineEffect = true := by
  simp [turbineTripped]

theorem takeGroups_tripped (d : Sdu) :
    takeGroups true d = { d with tripHold := true, setPoint := 0, acc := 0, dir := .none, pubSource := 0 } := rfl

theorem takeGroups_clear (d : Sdu) : takeGroups false d = { d with tripHold := false } := rfl

/-! ## The swap as a whole -/

/-- What a swap without a pending restart makes of the state (R31). -/
theorem exec_bankSwap_next {s : State} (hs : s.tbs.shadow = .swapPending) (hr : s.rgi.restartPending = false) :
    ∃ t, exec .bankSwapTakesEffect s = .next t ∧ t.tbs = s.tbs.swap ∧ t.rgi = enqueue s.rgi (bankSwappedEvent s) ∧
      t.piu = piuSwap s.tables t.tables s.piu ∧ t.lpe = lpeSwap s.tables t.tables s.lpe ∧
      t.eau = (if s.running then s.eau else latchEmissions t.tables s.eau) ∧
      t.otu = otuSwap s.tables t.tables s.rgi.runTime s.otu ∧
      t.sdu = takeGroups (turbineTripped t.tables s.otu.pubGroups) s.sdu ∧
      t.gsq = s.gsq ∧ t.lsv = s.lsv ∧ t.rdu = s.rdu ∧ t.pending = s.pending := by
  refine ⟨(swapBanks s).drawFree, ?_, ?_⟩
  · rw [exec_bankSwapTakesEffect, if_pos ⟨hs, by simp [hr]⟩]
  · simp [State.tables_eq, swapBanks, carryOver]

/-- Settles O12: the swap, block by block. -/
theorem bankSwapTakesEffectAtOnce : Obligations.BankSwapTakesEffectAtOnce := by
  intro s hs
  refine ⟨fun hr => ?_, fun hr => ?_⟩
  swap
  · rw [exec_bankSwapTakesEffect, if_neg (by simp [hr])]
  obtain ⟨t, hnext, htbs, hrgi, hpiu, hlpe, heau, hotu, hsdu, hgsq, hlsv, hrdu, hpending⟩ := exec_bankSwap_next hs hr
  refine ⟨t, bankSwappedEvent s, hnext, ?_⟩
  rw [htbs, hpiu, hlpe, heau, hotu, hsdu]
  refine ⟨s.tbs.swap_activeBank, s.tbs.swap_shadowBank, s.tbs.active.other_ne, rfl, rfl, fun i => replicate_get _ i, rfl, rfl,
    hrgi, rfl, rfl, rfl, rfl, rfl, hgsq, hlsv, hrdu, hpending, piuSwap_image _ _ _, fun i => ?_, fun i => ?_, fun h => ?_,
    fun h => ?_, rfl, fun k => ?_, fun p => ?_, fun i => ?_, fun h => ?_, fun h => ?_⟩
  · intro old new w v remade rescaled
    have hv : v = swapPoint old new w := piuSwap_point _ _ _ i
    have hremade : remade ↔ pointRemade old new = true := (pointRemade_iff old new).symm
    have hrescaled : rescaled ↔ pointRescaled old new = true := (pointRescaled_iff old new).symm
    rw [hv, hremade, hrescaled]
    refine ⟨fun h => swapPoint_remade h w, fun ho hn h => ?_⟩
    rw [swapPoint_kept ho hn h]
    exact ⟨rfl, fun h => if_pos h, fun h => if_neg h, fun h => if_pos (by simpa using h), fun h => if_neg (by simpa using h)⟩
  · intro old new x y
    have hy : y = swapLoop s.tables t.tables i x := lpeSwap_loop _ _ _ i
    clear_value y
    subst hy
    refine ⟨fun hn => swapLoop_outOfService x hn, fun hn ho => swapLoop_intoService x hn ho, fun hn ho => ?_⟩
    obtain ⟨hframe, hu, hr, he⟩ := swapLoop_inService x hn ho
    refine ⟨hframe, fun h1 h2 => ?_, fun h hle => ?_, fun h => ?_, fun h h' => ?_, fun h => ?_, fun h h' => ?_⟩
    · exact hu.trans (if_neg (by simp [old, new, h1, h2]))
    · exact (hu.trans (if_pos h)).trans (limitOut_eq hle _)
    · exact hr.trans (if_pos h)
    · exact hr.trans (if_neg (by simp [old, new, h, h']))
    · exact he.trans (if_pos h)
    · exact he.trans (if_neg (by simp [old, new, h, h']))
  · exact if_pos h
  · rw [if_neg (by simp [h])]
    exact ⟨rfl, fun l => latchEmissions_line _ _ l⟩
  · intro old new changed
    have hchanged : changed ↔ outputRemade old new = true := (outputRemade_iff old new).symm
    rw [otuSwap_record, otuSwap_pub, hchanged]
    exact ⟨fun h => ⟨if_pos h, if_pos h⟩, fun h => ⟨if_neg h, if_neg h⟩⟩
  · intro old new changed
    have hchanged : changed ↔ pairRemade old new = true := (pairRemade_iff old new).symm
    rw [otuSwap_conflict, hchanged]
    exact ⟨fun h => if_pos h, fun h => if_neg h⟩
  · rw [otuSwap_trip]
    exact ⟨rfl, rfl, by simp⟩
  · rw [(turbineTripped_iff _ _).mpr h, takeGroups_tripped]
  · have hclear : turbineTripped t.tables s.otu.pubGroups = false := by
      rw [Bool.eq_false_iff, ne_eq, turbineTripped_iff]
      rintro ⟨g, hg, he⟩
      exact Bool.noConfusion (he.symm.trans (h g hg))
    rw [hclear, takeGroups_clear]

end Machine
end Sys2Proof
end

section
/-! SUPPORT. Commit validation (R26 to R29): a bank without an offending entry, table by table. -/

namespace Sys2Proof
namespace Machine

/-! ## The visiting order (R26) -/

/-- A statement about every table is one about each of the ten (R20). -/
theorem forall_tables {P : Nat → Prop} (h0 : P 0) (h1 : P 1) (h2 : P 2) (h3 : P 3) (h4 : P 4) (h5 : P 5) (h6 : P 6) (h7 : P 7)
    (h8 : P 8) (h9 : P 9) (t : Nat) (ht : t < 10) : P t :=
  (List.forall_iff_forall_mem (l := List.range 10)).mp ⟨h0, h1, h2, h3, h4, h5, h6, h7, h8, h9⟩ t (List.mem_range.mpr ht)

/-- Of the numbers below `n` those of a list are left, where the statement holds of the others. -/
theorem forall_checked {n : Nat} {P : Nat → Prop} (l others : List Nat) (hl : ∀ t ∈ l, t < n)
    (hr : ∀ t < n, t ∈ l ∨ t ∈ others)
    (h : others.Forall P) : (∀ t < n, P t) ↔ l.Forall P :=
  ⟨fun hP => List.forall_iff_forall_mem.mpr fun t ht => hP t (hl t ht),
    fun hP t ht => (hr t ht).elim (List.forall_iff_forall_mem.mp hP t) (List.forall_iff_forall_mem.mp h t)⟩

/-- The tables with checks are seven; T4, T5 and T9 have none. -/
theorem forall_checked_tables {P : Nat → Prop} (h4 : P 4) (h5 : P 5) (h9 : P 9) :
    (∀ t < 10, P t) ↔ P 0 ∧ P 1 ∧ P 2 ∧ P 3 ∧ P 6 ∧ P 7 ∧ P 8 :=
  forall_checked [0, 1, 2, 3, 6, 7, 8] [4, 5, 9] (by decide) (by decide) ⟨h4, h5, h9⟩

/-- A statement about every entry of table 0 is one about each of the eight (R198). -/
theorem forall_settings {P : Nat → Prop} (h0 : P 0) (h1 : P 1) (h2 : P 2) (h3 : P 3) (h4 : P 4) (h5 : P 5) (h6 : P 6)
    (h7 : P 7) (i : Nat) (hi : i < 8) : P i :=
  (List.forall_iff_forall_mem (l := List.range 8)).mp ⟨h0, h1, h2, h3, h4, h5, h6, h7⟩ i (List.mem_range.mpr hi)

/-- The entries of table 0 with checks are four. -/
theorem forall_checked_settings {P : Nat → Prop} (h1 : P 1) (h2 : P 2) (h3 : P 3) (h7 : P 7) :
    (∀ i < 8, P i) ↔ P 0 ∧ P 4 ∧ P 5 ∧ P 6 :=
  forall_checked [0, 4, 5, 6] [1, 2, 3, 7] (by decide) (by decide) ⟨h1, h2, h3, h7⟩

/-- A statement about every line is one about both. -/
theorem forall_lines {P : Line → Prop} : (∀ l, P l) ↔ P .one ∧ P .two :=
  ⟨fun h => ⟨h .one, h .two⟩, fun h l => l.rec h.1 h.2⟩

theorem forall_visited {P : Nat × Nat → Prop} : (∀ p ∈ visitingOrder, P p) ↔ ∀ t < 10, ∀ i < entryCount t, P (t, i) :=
  List.forall_mem_flatMap.trans <| forall_congr' fun _ => imp_congr List.mem_range <|
    List.forall_mem_map.trans <| forall_congr' fun _ => imp_congr_left List.mem_range

theorem entry_of_visited {p : Nat × Nat} (hp : p ∈ visitingOrder) : p.1 < 10 ∧ p.2 < entryCount p.1 :=
  (forall_visited (P := fun p => p.1 < 10 ∧ p.2 < entryCount p.1)).mpr (fun _ ht _ hi => ⟨ht, hi⟩) p hp

/-- No offender is found exactly when no entry of a table breaks a check. -/
theorem firstOffender_eq_none (b : Bank) :
    firstOffender b = none ↔ ∀ t < 10, ∀ i < entryCount t, entryBroken b t i = false :=
  (List.find?_eq_none.trans (forall_congr' fun _ => imp_congr_right fun _ => iff_of_eq (Bool.not_eq_true _))).trans
    (forall_visited (P := fun p => entryBroken b p.1 p.2 = false))

/-- Below a table's count, the check that `entryBroken` makes is that of the entry. -/
theorem all_below_iff {n : Nat} {f : Fin n → Bool} :
    (∀ i < n, (if h : i < n then f ⟨i, h⟩ else false) = false) ↔ ∀ i : Fin n, f i = false :=
  ⟨fun h i => (dif_pos i.isLt).symm.trans (h i i.isLt), fun h i hi => (dif_pos hi).trans (h ⟨i, hi⟩)⟩

/-- The entries of the tables with checks, each table by its own rule. -/
theorem firstOffender_eq_none_iff_tables (b : Bank) :
    firstOffender b = none ↔
      (∀ i < 8, groupBroken b i = false) ∧ (∀ i : Fin 256, pointBroken (b.points.get i) = false) ∧
      (∀ k : Fin 64, outputBroken b k = false) ∧ (∀ p : Fin 16, pairBroken b p = false) ∧
      (∀ i : Fin 12, loopBroken b (b.loops.get i) = false) ∧ (∀ i : Fin 32, stepBroken b i = false) ∧
      (∀ i : Fin 48, blockBroken b i = false) :=
  (firstOffender_eq_none b).trans <| (forall_checked_tables (fun _ _ => rfl) (fun _ _ => rfl) fun _ _ => rfl).trans <|
    and_congr Iff.rfl <| and_congr (all_below_iff (f := fun i => pointBroken (b.points.get i))) <|
      and_congr all_below_iff <| and_congr all_below_iff <|
      and_congr (all_below_iff (f := fun i => loopBroken b (b.loops.get i))) <| and_congr all_below_iff all_below_iff

/-! ## Checks as Booleans -/

theorem iff_of_eq_decide {b : Bool} {p : Prop} [Decidable p] (h : b = decide p) : b = true ↔ p :=
  (iff_of_eq (congrArg (· = true) h)).trans decide_eq_true_iff

/-- An entry under a condition breaks no check exactly when the condition brings the checks with it. -/
theorem guarded_eq_false {u x : Bool} : (u && !x) = false ↔ (u = true → x = true) := by
  revert u x; decide

theorem before_not_both_iff {a b c : Bool} : (!(a && b && c)) = true ↔ (a = true → b = true → c = false) := by
  revert a b c; decide
theorem before_neither_iff {a b c : Bool} : (!(a && (b || c))) = true ↔ (a = true → b = false ∧ c = false) := by
  revert a b c; decide

theorem all_finRange_iff {n : Nat} {f : Fin n → Bool} {P : Fin n → Prop} (h : ∀ j, f j = true ↔ P j) :
    (List.finRange n).all f = true ↔ ∀ j, P j :=
  List.all_eq_true.trans ⟨fun hf j => (h j).mp (hf j (List.mem_finRange j)), fun hP j _ => (h j).mpr (hP j)⟩

theorem all_before_iff {n : Nat} {k : Fin n} {u v : Fin n → Bool} :
    ((List.finRange n).all fun j => !(decide (j < k) && u j && v j)) = true ↔
      ∀ j : Fin n, j < k → u j = true → v j = false :=
  all_finRange_iff fun _ => before_not_both_iff.trans (imp_congr_left decide_eq_true_iff)

theorem and_three {a b c : Bool} : (a && b && c) = true ↔ a = true ∧ b = true ∧ c = true := by
  revert a b c; decide
theorem and_four {a b c d : Bool} : (a && b && c && d) = true ↔ a = true ∧ b = true ∧ c = true ∧ d = true := by
  revert a b c d; decide
theorem and_five {a b c d e : Bool} :
    (a && b && c && d && e) = true ↔ a = true ∧ b = true ∧ c = true ∧ d = true ∧ e = true := by
  revert a b c d e; decide

/-- An entry with checks of one kind or of another. -/
theorem ite_eq_false {u x y : Bool} : (if u then !x else y) = false ↔ (u = true → x = true) ∧ (u = false → y = false) := by
  revert u x y; decide

/-- Four bounds that are all met. -/
theorem bounds_iff {p q r t : Prop} [Decidable p] [Decidable q] [Decidable r] [Decidable t] :
    (!(decide p && decide q && decide r && decide t)) = false ↔ p ∧ q ∧ r ∧ t :=
  (iff_of_eq (Bool.not_eq_false' _)).trans <| and_four.trans <| and_congr decide_eq_true_iff <| and_congr decide_eq_true_iff <|
    and_congr decide_eq_true_iff decide_eq_true_iff

/-! ## T0, T1 and T6 (R27 to R29) -/

theorem emissionBroken_eq_false (e : EmissionEntry) :
    emissionBroken e = false ↔
      e.o2Ref.toNat < e.o2Ceil.toNat ∧ e.o2Ceil.toNat ≤ 2000 ∧ e.release.toNat < e.action.toNat :=
  (iff_of_eq (Bool.not_eq_false' _)).trans <| and_three.trans <|
    and_congr decide_eq_true_iff (and_congr decide_eq_true_iff decide_eq_true_iff)

theorem groupBroken_eq_false (b : Bank) :
    (∀ i < 8, groupBroken b i = false) ↔
      (4 ≤ b.ring.tCyc.toNat ∧ b.ring.tCyc.toNat ≤ 50 ∧ 20 ≤ b.ring.lossTime.toNat ∧ b.ring.lossTime.toNat ≤ 2000) ∧
      b.split.share.toNat ≤ 100 ∧
      ∀ l : Line, (b.emission.get l).o2Ref.toNat < (b.emission.get l).o2Ceil.toNat ∧
        (b.emission.get l).o2Ceil.toNat ≤ 2000 ∧ (b.emission.get l).release.toNat < (b.emission.get l).action.toNat := by
  exact (forall_checked_settings (P := fun i => groupBroken b i = false) rfl rfl rfl rfl).trans <| and_congr bounds_iff <| and_congr
    ((iff_of_eq (Bool.not_eq_false' _)).trans decide_eq_true_iff) <|
    (forall_lines (P := fun l => emissionBroken (b.emission.get l) = false)).symm.trans
      (forall_congr' fun _ => emissionBroken_eq_false _)

theorem pointBroken_eq_false (e : PointEntry) : pointBroken e = false ↔ (yes e.inUse = true → e.slot.toNat ≤ 511) :=
  guarded_eq_false.trans (imp_congr_right fun _ => decide_eq_true_iff)

theorem loopBroken_eq_false (b : Bank) (e : LoopEntry) :
    loopBroken b e = false ↔
      (yes e.inService = true → b.ring.tCyc.toNat ≤ e.ti.toNat ∧ e.outMin.toNat < e.outMax.toNat) :=
  guarded_eq_false.trans <| imp_congr_right fun _ =>
    Bool.and_eq_true_iff.trans (and_congr decide_eq_true_iff decide_eq_true_iff)

/-! ## T7 and T8 (R29) -/

theorem forall_four {P : Fin 4 → Prop} : (∀ a, P a) ↔ P 0 ∧ P 1 ∧ P 2 ∧ P 3 :=
  ⟨fun h => ⟨h 0, h 1, h 2, h 3⟩, fun h a => (List.forall_iff_forall_mem (l := [0, 1, 2, 3])).mp h a (by revert a; decide)⟩

theorem or_four_eq_false {a b c d : Bool} :
    (a || b || c || d) = false ↔ a = false ∧ b = false ∧ c = false ∧ d = false := by
  revert a b c d; decide

theorem and_eq_false_iff_not {a b : Bool} : (a && b) = false ↔ ¬ (a = true ∧ b = true) := by
  revert a b; decide

theorem bothDirections_eq_false (o : Byte) :
    bothDirections o = false ↔
      ∀ a : Fin 4, ¬ (o.getLsbD (2 * a.val) = true ∧ o.getLsbD (2 * a.val + 1) = true) :=
  or_four_eq_false.trans <| (and_congr and_eq_false_iff_not <| and_congr and_eq_false_iff_not <|
    and_congr and_eq_false_iff_not and_eq_false_iff_not).trans
    (forall_four (P := fun a => ¬ (o.getLsbD (2 * a.val) = true ∧ o.getLsbD (2 * a.val + 1) = true))).symm

theorem dite_eq_true_iff {n x : Nat} {f : Fin n → Bool} :
    (if h : x < n then f ⟨x, h⟩ else false) = true ↔ ∃ m : Fin n, x = m.val ∧ f m = true := by
  by_cases hlt : x < n
  · rw [dif_pos hlt]
    exact ⟨fun h => ⟨⟨x, hlt⟩, rfl, h⟩, fun h => h.elim fun m hm => (congrArg f (Fin.ext hm.1)).trans hm.2⟩
  · rw [dif_neg hlt]
    exact iff_of_false Bool.false_ne_true fun h => h.elim fun m hm => hlt (hm.1 ▸ m.isLt)

theorem nextStepGood_iff (b : Bank) (l : Line) (next : Byte) :
    nextStepGood b l next = true ↔
      next = 255 ∨ ∃ m : Fin 16, next.toNat = m.val ∧ yes (stepEntry b l m).inUse = true :=
  (iff_of_eq (congrArg (· = true) (Bool.if_true_left _ _))).trans <|
    Bool.or_eq_true_iff.trans (or_congr decide_eq_true_iff (dite_eq_true_iff (f := fun m => yes (stepEntry b l m).inUse)))

/-- The checks of R29 on one step entry of a line. -/
def StepChecks (b : Bank) (l : Line) (e : StepEntry) : Prop :=
  yes e.inUse = true →
    (e.next = 255 ∨ ∃ m : Fin 16, e.next.toNat = m.val ∧ yes (stepEntry b l m).inUse = true) ∧
      (∀ a : Fin 4, ¬ (e.outputs.getLsbD (2 * a.val) = true ∧ e.outputs.getLsbD (2 * a.val + 1) = true)) ∧
      (completionOf e ≠ .limit → e.time.toNat ≤ e.timeout.toNat)

theorem stepBroken_iff (b : Bank) (i : Fin 32) :
    stepBroken b i = false ↔ StepChecks b (if i.val < 16 then .one else .two) (b.steps.get i) := by
  have htime {c : Completion} {p : Prop} [Decidable p] : (c == .limit || decide p) = true ↔ (c ≠ .limit → p) :=
    Bool.or_eq_true_iff.trans ((or_congr beq_iff_eq decide_eq_true_iff).trans Classical.or_iff_not_imp_left)
  exact guarded_eq_false.trans <| imp_congr_right fun _ => and_three.trans <|
    and_congr (nextStepGood_iff b _ _) (and_congr
      ((iff_of_eq (Bool.not_eq_true' _)).trans (bothDirections_eq_false _)) htime)

/-- The place of a line's step in the table (R58). -/
theorem stepPlace_lt (l : Line) (n : Fin 16) : 16 * l.offset + n.val < 32 := by
  rcases l
  · exact (Nat.zero_add n.val).symm ▸ Nat.lt_trans n.isLt (by decide)
  · exact Nat.add_lt_add_left n.isLt 16

theorem line_of_stepPlace (l : Line) (n : Fin 16) : (if 16 * l.offset + n.val < 16 then Line.one else .two) = l := by
  rcases l
  · exact if_pos ((Nat.zero_add n.val).symm ▸ n.isLt)
  · exact if_neg (Nat.not_lt.mpr (Nat.le_add_right 16 n.val))

/-- Every place of the table is that of a line's step. -/
theorem stepPlace_surjective (i : Fin 32) : ∃ (l : Line) (n : Fin 16), i.val = 16 * l.offset + n.val := by
  rcases Nat.lt_or_ge i.val 16 with hlt | hge
  · exact ⟨.one, ⟨i.val, hlt⟩, (Nat.zero_add i.val).symm⟩
  · exact ⟨.two, ⟨i.val - 16, Nat.sub_lt_left_of_lt_add hge i.isLt⟩, (Nat.add_sub_of_le hge).symm⟩

/-- The step entries of both lines are those of the table (R58). -/
theorem stepBroken_eq_false (b : Bank) :
    (∀ i : Fin 32, stepBroken b i = false) ↔ ∀ (l : Line) (n : Fin 16), StepChecks b l (stepEntry b l n) := by
  refine (forall_congr' (stepBroken_iff b)).trans ⟨fun h l n => ?_, fun h i => ?_⟩
  · have hstep := h ⟨16 * l.offset + n.val, stepPlace_lt l n⟩
    rwa [line_of_stepPlace] at hstep
  · obtain ⟨l, n, hi⟩ := stepPlace_surjective i
    have hentry : b.steps.get i = stepEntry b l n := congrArg b.steps.get (Fin.ext hi)
    rw [hentry, hi, line_of_stepPlace]
    exact h l n

theorem blockBroken_eq_false (b : Bank) (i : Fin 48) :
    blockBroken b i = false ↔ (yes (b.blocks.get i).inUse = true →
      1 ≤ (b.blocks.get i).ramp.toNat ∧ (b.blocks.get i).target.toNat ≤ b.turbine.rated.toNat ∧
      (b.blocks.get i).start.toNat ≤ 1439 ∧
      ∀ j : Fin 48, j < i → yes (b.blocks.get j).inUse = true →
        (b.blocks.get j).start.toNat < (b.blocks.get i).start.toNat) :=
  guarded_eq_false.trans <| imp_congr_right fun _ => and_four.trans <|
    and_congr decide_eq_true_iff <| and_congr decide_eq_true_iff <| and_congr decide_eq_true_iff <|
      all_before_iff.trans <| forall_congr' fun _ => imp_congr_right fun _ => imp_congr_right fun _ =>
        decide_eq_false_iff_not.trans Nat.not_le

/-! ## T2 and T3: records and pairs that name each other (R28) -/

/-- Whether a pair is in use, the numbers of its members, and the pair id of a record. -/
def inUse (b : Bank) (p : Fin 16) : Bool := yes (b.pairs.get p).inUse
def firstOf (b : Bank) (p : Fin 16) : Nat := (b.pairs.get p).memberA.toNat
def secondOf (b : Bank) (p : Fin 16) : Nat := (b.pairs.get p).memberB.toNat
def idOf (b : Bank) (k : Fin 64) : Nat := (b.outputs.get k).pairId.toNat

/-- An in-use pair names a record. -/
def Names (b : Bank) (p : Fin 16) (k : Nat) : Prop := inUse b p = true ∧ (firstOf b p = k ∨ secondOf b p = k)

theorem pairNames_fin (b : Bank) (p : Fin 16) (k : Nat) : pairNames b p.val k = true ↔ Names b p k := by
  have h : b.pairs[p.val]? = some (b.pairs.get p) := Vector.getElem?_eq_getElem p.isLt
  rw [pairNames, h]
  exact Bool.and_eq_true_iff.trans (and_congr_right' (Bool.or_eq_true_iff.trans (or_congr beq_iff_eq beq_iff_eq)))

theorem pairNames_bound {b : Bank} {p k : Nat} (h : pairNames b p k = true) : p < 16 := by
  by_contra hp
  rw [pairNames, Vector.getElem?_eq_none (Nat.le_of_not_lt hp)] at h
  exact Bool.false_ne_true h

theorem carriesPair_fin (b : Bank) (p : Nat) (m : Fin 64) : carriesPair b p m.val = true ↔ idOf b m = p + 1 := by
  have h : b.outputs[m.val]? = some (b.outputs.get m) := Vector.getElem?_eq_getElem m.isLt
  rw [carriesPair, h]
  exact beq_iff_eq

/-- What a pair makes of a record that carries its id (R166). -/
def pairIn (b : Bank) (k : Fin 64) (p : Fin 16) : Option (Fin 16 × Fin 64) :=
  if inUse b p then
    if firstOf b p = k.val then some (p, indexIn 64 (by decide) (secondOf b p))
    else if secondOf b p = k.val then some (p, indexIn 64 (by decide) (firstOf b p))
    else none
  else none

theorem chain_eq_some {α : Type} {u a c : Prop} [Decidable u] [Decidable a] [Decidable c] {x y z : α} :
    (if u then if a then some x else if c then some y else none else none) = some z ↔
      u ∧ (a ∧ x = z ∨ ¬ a ∧ c ∧ y = z) :=
  Option.ite_none_right_eq_some.trans (and_congr_right' (ite_eq_iff.trans (or_congr (and_congr_right' Option.some_inj)
    (and_congr_right' (Option.ite_none_right_eq_some.trans (and_congr_right' Option.some_inj))))))

theorem pairIn_fst {b : Bank} {k : Fin 64} {p : Fin 16} {z : Fin 16 × Fin 64} (h : pairIn b k p = some z) : p = z.1 :=
  (chain_eq_some.mp h).2.elim (fun h => congrArg Prod.fst h.2) fun h => congrArg Prod.fst h.2.2

theorem pairIn_eq_some {b : Bank} {k m : Fin 64} {p : Fin 16} : pairIn b k p = some (p, m) ↔ inUse b p = true ∧
    (firstOf b p = k.val ∧ indexIn 64 (by decide) (secondOf b p) = m ∨
      ¬ firstOf b p = k.val ∧ secondOf b p = k.val ∧ indexIn 64 (by decide) (firstOf b p) = m) :=
  have hfst {x y : Fin 64} : (p, x) = (p, y) ↔ x = y := ⟨congrArg Prod.snd, congrArg (Prod.mk p)⟩
  chain_eq_some.trans (and_congr_right' (or_congr (and_congr_right' hfst) (and_congr_right' (and_congr_right' hfst))))

/-- What a record's pair id finds, where it is that of pair `p` (R166). -/
theorem pairOf_of_id {b : Bank} {k : Fin 64} {p : Fin 16} (h : idOf b k = p.val + 1) : pairOf b k = pairIn b k p :=
  (dif_pos ⟨(Nat.le_add_left 1 p.val).trans_eq h.symm, h.trans_le p.isLt⟩).trans (congrArg (pairIn b k) (Fin.ext (congrArg (· - 1) h)))

theorem pairOf_pairId {b : Bank} {k m : Fin 64} {p : Fin 16} (h : pairOf b k = some (p, m)) : idOf b k = p.val + 1 := by
  by_cases hid : 1 ≤ idOf b k ∧ idOf b k ≤ 16
  · exact (Nat.sub_add_cancel hid.1).symm.trans
      (congrArg (fun q : Fin 16 => q.val + 1) (pairIn_fst ((dif_pos hid).symm.trans h)))
  · exact (Option.some_ne_none _ (h.symm.trans (dif_neg hid))).elim

/-- The pair and the partner of a record: its id names an in-use pair that has it as a member (R166). -/
theorem pairOf_eq_some {b : Bank} {k m : Fin 64} {p : Fin 16} :
    pairOf b k = some (p, m) ↔ idOf b k = p.val + 1 ∧ pairIn b k p = some (p, m) :=
  ⟨fun h => ⟨pairOf_pairId h, (pairOf_of_id (pairOf_pairId h)).symm.trans h⟩, fun h => (pairOf_of_id h.1).trans h.2⟩

theorem pairOf_of_named {b : Bank} {k : Fin 64} {p : Fin 16} (h : idOf b k = p.val + 1) (hn : Names b p k.val) :
    ∃ m, pairOf b k = some (p, m) := by
  by_cases ha : firstOf b p = k.val
  · exact ⟨_, pairOf_eq_some.mpr ⟨h, pairIn_eq_some.mpr ⟨hn.1, .inl ⟨ha, rfl⟩⟩⟩⟩
  · exact ⟨_, pairOf_eq_some.mpr ⟨h, pairIn_eq_some.mpr ⟨hn.1, .inr ⟨ha, hn.2.resolve_left ha, rfl⟩⟩⟩⟩

theorem names_of_pairOf {b : Bank} {k m : Fin 64} {p : Fin 16} (h : pairOf b k = some (p, m)) : Names b p k.val :=
  (pairIn_eq_some.mp (pairOf_eq_some.mp h).2).imp_right (Or.imp And.left fun h => h.2.1)

/-- The pair that a record's id finds. -/
def Paired (b : Bank) (k : Fin 64) : Prop := ∃ p m, pairOf b k = some (p, m) ∧ p.val + 1 = idOf b k

/-- R28's check on a record's pair id: `pairOf` finds its pair. -/
theorem pairNames_iff (b : Bank) (k : Fin 64) (h : (b.outputs.get k).pairId ≠ 0) :
    pairNames b (idOf b k - 1) k.val = true ↔ Paired b k := by
  refine ⟨fun hn => ?_, ?_⟩
  · have hid : idOf b k - 1 + 1 = idOf b k := Nat.sub_add_cancel (Nat.pos_of_ne_zero fun h0 => h (BitVec.eq_of_toNat_eq h0))
    obtain ⟨m, hm⟩ := pairOf_of_named (p := ⟨_, pairNames_bound hn⟩) hid.symm ((pairNames_fin b _ _).mp hn)
    exact ⟨_, m, hm, hid⟩
  · rintro ⟨p, m, hpm, hp⟩
    rw [← hp]
    exact (pairNames_fin b p k.val).mpr (names_of_pairOf hpm)

/-- The checks of R28 on a record with a source, its window compared with those of the `others`. -/
def RecordChecks (b : Bank) (k : Fin 64) (others : Fin 64 → Prop) : Prop :=
  sourceListed (b.outputs.get k).source.toNat = true ∧ (b.outputs.get k).window.toNat ≤ 63 ∧
    (b.outputs.get k).rawLow.toNat < (b.outputs.get k).rawHigh.toNat ∧
    (∀ j : Fin 64, others j → (b.outputs.get j).source ≠ 0 → (b.outputs.get j).window ≠ (b.outputs.get k).window) ∧
    ((b.outputs.get k).pairId ≠ 0 → Paired b k)

theorem outputBroken_eq_false (b : Bank) (k : Fin 64) :
    outputBroken b k = false ↔
      ((b.outputs.get k).source ≠ 0 → RecordChecks b k (· < k)) ∧
        ((b.outputs.get k).source = 0 → (b.outputs.get k).pairId = 0) := by
  have hpair : ((b.outputs.get k).pairId == 0 || pairNames b (idOf b k - 1) k.val) = true ↔ _ :=
    Bool.or_eq_true_iff.trans <| (or_congr_left beq_iff_eq).trans <| Classical.or_iff_not_imp_left.trans <|
      forall_congr' (pairNames_iff b k)
  exact ite_eq_false.trans <| and_congr
    (imp_congr bne_iff_ne <| and_five.trans <| and_congr_right' <| and_congr decide_eq_true_iff <| and_congr decide_eq_true_iff <|
      and_congr (all_before_iff.trans <| forall_congr' fun _ => imp_congr_right fun _ =>
        imp_congr bne_iff_ne beq_eq_false_iff_ne) hpair)
    (imp_congr bne_eq_false_iff_eq bne_eq_false_iff_eq)

section
variable {b : Bank} {k : Fin 64} {others : Fin 64 → Prop} (h : RecordChecks b k others)
include h

theorem RecordChecks.windows :
    ∀ j : Fin 64, others j → (b.outputs.get j).source ≠ 0 → (b.outputs.get j).window ≠ (b.outputs.get k).window := h.2.2.2.1

theorem RecordChecks.pair : (b.outputs.get k).pairId ≠ 0 → Paired b k := h.2.2.2.2

end

/-- The other checks do not speak of the other windows. -/
theorem RecordChecks.with_windows {b : Bank} {k : Fin 64} {others others' : Fin 64 → Prop} (h : RecordChecks b k others)
    (hw : ∀ j : Fin 64, others' j → (b.outputs.get j).source ≠ 0 → (b.outputs.get j).window ≠ (b.outputs.get k).window) :
    RecordChecks b k others' :=
  h.imp_right (And.imp_right (And.imp_right (And.imp_left fun _ => hw)))

/-- The windows of two records differ whichever comes first. -/
theorem outputs_meet (b : Bank) :
    (∀ k : Fin 64, outputBroken b k = false) ↔
      (∀ k : Fin 64, (b.outputs.get k).source ≠ 0 → RecordChecks b k (· ≠ k)) ∧
        ∀ k : Fin 64, (b.outputs.get k).source = 0 → (b.outputs.get k).pairId = 0 := by
  refine (forall_congr' (outputBroken_eq_false b)).trans (forall_and.trans (and_congr_left' ⟨fun h k hk => ?_, fun h k hk => ?_⟩))
  · exact (h k hk).with_windows fun j hjk hj => (Fin.lt_or_lt_of_ne hjk).elim (fun hlt => (h k hk).windows j hlt hj)
      fun hlt => ((h j hj).windows k hlt hk).symm
  · exact (h k hk).with_windows fun j hlt => (h k hk).windows j (Fin.ne_of_lt hlt)

/-- Two records that carry a pair's id, each the other's partner, as its members. -/
def JoinedBy (b : Bank) (p : Fin 16) (m n : Fin 64) : Prop :=
  m ≠ n ∧ firstOf b p = m.val ∧ secondOf b p = n.val ∧ pairOf b m = some (p, n) ∧ pairOf b n = some (p, m)
def PairJoined (b : Bank) (p : Fin 16) : Prop := ∃ m n : Fin 64, JoinedBy b p m n

section
variable {b : Bank} {p : Fin 16} {m n : Fin 64} (h : JoinedBy b p m n)
include h

theorem JoinedBy.ne : m ≠ n := h.1
theorem JoinedBy.first : firstOf b p = m.val := h.2.1
theorem JoinedBy.second : secondOf b p = n.val := h.2.2.1
theorem JoinedBy.partner : pairOf b m = some (p, n) := h.2.2.2.1
theorem JoinedBy.partner' : pairOf b n = some (p, m) := h.2.2.2.2

end

theorem indexIn_val {n : Nat} (h : 0 < n) (k : Fin n) : indexIn n h k.val = k := dif_pos k.isLt

theorem and_six {a b c d e f : Bool} :
    (a && b && c && d && e && f) = true ↔ a = true ∧ b = true ∧ c = true ∧ d = true ∧ e = true ∧ f = true := by
  revert a b c d e f; decide

/-- The checks of R28 on a pair, as they stand. -/
def PairChecks (b : Bank) (p : Fin 16) : Prop :=
  firstOf b p ≠ secondOf b p ∧ firstOf b p < 64 ∧ secondOf b p < 64 ∧
    (∀ q : Fin 16, q < p → pairNames b q.val (firstOf b p) = false ∧ pairNames b q.val (secondOf b p) = false) ∧
    carriesPair b p.val (firstOf b p) = true ∧ carriesPair b p.val (secondOf b p) = true

theorem pairBroken_iff (b : Bank) (p : Fin 16) : pairBroken b p = false ↔ (inUse b p = true → PairChecks b p) :=
  guarded_eq_false.trans <| imp_congr_right fun _ => and_six.trans <|
    and_congr (bne_iff_ne.trans (not_congr BitVec.toNat_inj.symm)) <|
    and_congr decide_eq_true_iff <| and_congr decide_eq_true_iff <| and_congr_left' <|
      all_finRange_iff fun _ => before_neither_iff.trans (imp_congr_left decide_eq_true_iff)

section
variable {b : Bank} {p : Fin 16} (h : PairChecks b p)
include h

theorem PairChecks.ne : firstOf b p ≠ secondOf b p := h.1
theorem PairChecks.first : firstOf b p < 64 := h.2.1
theorem PairChecks.second : secondOf b p < 64 := h.2.2.1
theorem PairChecks.carry : carriesPair b p.val (firstOf b p) = true ∧ carriesPair b p.val (secondOf b p) = true := h.2.2.2.2

theorem PairChecks.joined (hu : inUse b p = true) : PairJoined b p :=
  ⟨⟨_, h.first⟩, ⟨_, h.second⟩, fun he => h.ne (Fin.mk.inj he), rfl, rfl,
    pairOf_eq_some.mpr ⟨(carriesPair_fin b p.val ⟨_, h.first⟩).mp h.carry.1,
      pairIn_eq_some.mpr ⟨hu, .inl ⟨rfl, indexIn_val _ ⟨_, h.second⟩⟩⟩⟩,
    pairOf_eq_some.mpr ⟨(carriesPair_fin b p.val ⟨_, h.second⟩).mp h.carry.2,
      pairIn_eq_some.mpr ⟨hu, .inr ⟨h.ne, rfl, indexIn_val _ ⟨_, h.first⟩⟩⟩⟩⟩

end

/-- A record that a joined pair names carries its id. -/
theorem PairJoined.id_of_named {b : Bank} {q : Fin 16} {k : Fin 64} (hq : PairJoined b q) (hn : Names b q k.val) :
    idOf b k = q.val + 1 := by
  obtain ⟨m, n, hj⟩ := hq
  have carries {i : Fin 64} {x : Nat} {z : Fin 64} (hx : x = i.val) (hi : pairOf b i = some (q, z)) (hk : x = k.val) :
      idOf b k = q.val + 1 := Fin.ext (hx.symm.trans hk) ▸ pairOf_pairId hi
  exact hn.2.elim (carries hj.first hj.partner) (carries hj.second hj.partner')

/-- The checks that name a member hold of a record that carries the pair's id, where the pairs before it are joined. -/
theorem member_meets {b : Bank} {p : Fin 16} {k m : Fin 64} {i : Nat} (h : ∀ q : Fin 16, inUse b q = true → PairJoined b q)
    (hk : pairOf b k = some (p, m)) (hi : i = k.val) :
    i < 64 ∧ (∀ q : Fin 16, q < p → pairNames b q.val i = false) ∧ carriesPair b p.val i = true := by
  subst hi
  refine ⟨k.isLt, fun q hlt => Bool.eq_false_iff.mpr fun hq => ?_, (carriesPair_fin b p.val k).mpr (pairOf_pairId hk)⟩
  have hn := (pairNames_fin b q k.val).mp hq
  exact (Fin.ne_of_lt hlt) (Fin.ext (Nat.succ.inj (((h q hn.1).id_of_named hn).symm.trans (pairOf_pairId hk))))

theorem JoinedBy.checks {b : Bank} {p : Fin 16} {m n : Fin 64} (hj : JoinedBy b p m n)
    (h : ∀ q : Fin 16, inUse b q = true → PairJoined b q) : PairChecks b p :=
  have hA := member_meets h hj.partner hj.first
  have hB := member_meets h hj.partner' hj.second
  ⟨fun he => hj.ne (Fin.ext (hj.first.symm.trans (he.trans hj.second))), hA.1, hB.1,
    fun q hlt => ⟨hA.2.1 q hlt, hB.2.1 q hlt⟩, hA.2.2, hB.2.2⟩

theorem pairBroken_eq_false (b : Bank) :
    (∀ p : Fin 16, pairBroken b p = false) ↔ ∀ p : Fin 16, inUse b p = true → PairJoined b p :=
  ⟨fun h p hu => ((pairBroken_iff b p).mp (h p) hu).joined hu, fun h p => (pairBroken_iff b p).mpr fun hu =>
    (h p hu).elim fun _ hm => hm.elim fun _ hj => hj.checks h⟩

theorem flatten_checks {a b c d e f g : Prop} : ((a ∧ b ∧ c) ∧ d ∧ (e ∧ f) ∧ g) ↔ a ∧ b ∧ c ∧ d ∧ e ∧ f ∧ g := by
  simp only [and_assoc]

/-- Settles O19: each table's checks are its rule above. -/
theorem validatedBankMeetsEveryCheck : Obligations.ValidatedBankMeetsEveryCheck := fun b =>
  (firstOffender_eq_none_iff_tables b).trans <|
    (and_congr (groupBroken_eq_false b) <| and_congr (forall_congr' fun _ => pointBroken_eq_false _) <|
      and_congr (outputs_meet b) <| and_congr (pairBroken_eq_false b) <|
      and_congr (forall_congr' fun _ => loopBroken_eq_false b _) <| and_congr (stepBroken_eq_false b) <|
      forall_congr' (blockBroken_eq_false b)).trans flatten_checks

end Machine
end Sys2Proof
end

section
/-! SUPPORT. The table bank store: one rule for each of its operations (R20 to R33), and the telegrams that move the shadow. -/

namespace Sys2Proof
namespace Machine

/-! ## The two banks and the shadow (R20) -/

/-- The store with the bank that is not the given one replaced. -/
def Tbs.replaced (t : Tbs) (b : Bank) : BankId → Tbs
  | .a => { t with bankB := b }
  | .b => { t with bankA := b }

theorem Tbs.replaced_bank (t : Tbs) (b : Bank) (i : BankId) : (t.replaced b i).bank i = t.bank i := by rcases i <;> rfl
theorem Tbs.replaced_other (t : Tbs) (b : Bank) (i : BankId) : (t.replaced b i).bank i.other = b := by rcases i <;> rfl
theorem Tbs.replaced_frame (t : Tbs) (b : Bank) (i : BankId) :
    t.replaced b i = { t with bankA := (t.replaced b i).bankA, bankB := (t.replaced b i).bankB } := by rcases i <;> rfl

/-- Replacing the shadow touches the two banks alone. -/
theorem Tbs.withShadow_frame (t : Tbs) (b : Bank) :
    t.withShadow b = { t with bankA := (t.withShadow b).bankA, bankB := (t.withShadow b).bankB } := t.replaced_frame b t.active

@[simp] theorem Tbs.withShadow_active (t : Tbs) (b : Bank) : (t.withShadow b).active = t.active :=
  (congrArg Tbs.active (t.withShadow_frame b) :)
@[simp] theorem Tbs.withShadow_bankValid (t : Tbs) (b : Bank) : (t.withShadow b).bankValid = t.bankValid :=
  (congrArg Tbs.bankValid (t.withShadow_frame b) :)
@[simp] theorem Tbs.withShadow_device (t : Tbs) (b : Bank) : (t.withShadow b).device = t.device :=
  (congrArg Tbs.device (t.withShadow_frame b) :)
@[simp] theorem Tbs.withShadow_shadow (t : Tbs) (b : Bank) : (t.withShadow b).shadow = t.shadow :=
  (congrArg Tbs.shadow (t.withShadow_frame b) :)
@[simp] theorem Tbs.withShadow_marks (t : Tbs) (b : Bank) : (t.withShadow b).marks = t.marks :=
  (congrArg Tbs.marks (t.withShadow_frame b) :)
@[simp] theorem Tbs.withShadow_written (t : Tbs) (b : Bank) : (t.withShadow b).written = t.written :=
  (congrArg Tbs.written (t.withShadow_frame b) :)
@[simp] theorem Tbs.withShadow_mark (t : Tbs) (b : Bank) (table index : Nat) :
    (t.withShadow b).mark table index = t.mark table index :=
  (congrArg (fun u : Tbs => u.mark table index) (t.withShadow_frame b) :)

@[simp] theorem Tbs.withShadow_activeBank (t : Tbs) (b : Bank) : (t.withShadow b).activeBank = t.activeBank :=
  (congrArg (t.withShadow b).bank (t.withShadow_active b)).trans (t.replaced_bank b t.active)
@[simp] theorem Tbs.withShadow_shadowBank (t : Tbs) (b : Bank) : (t.withShadow b).shadowBank = b :=
  (congrArg (fun i : BankId => (t.withShadow b).bank i.other) (t.withShadow_active b)).trans (t.replaced_other b t.active)

/-! ## Written marks (R22) -/

/-- The places of a table's marks end where those of the next begin. -/
theorem markBase_add_entryCount_le :
    ∀ t < 10, markBase t + entryCount t ≤ 488 ∧ ∀ u < 10, t < u → markBase t + entryCount t ≤ markBase u := by decide

theorem markPlace_lt {t i : Nat} (ht : t < 10) (hi : i < entryCount t) : markBase t + i < 488 :=
  (Nat.add_lt_add_left hi _).trans_le (markBase_add_entryCount_le t ht).1

/-- The places of a table lie below those of a later one. -/
theorem markPlace_ne {t i u j : Nat} (ht : t < 10) (hi : i < entryCount t) (hu : u < 10) (htu : t < u) :
    markBase t + i ≠ markBase u + j :=
  ((Nat.add_lt_add_left hi _).trans_le (((markBase_add_entryCount_le t ht).2 u hu htu).trans (Nat.le_add_right _ _))).ne

/-- Two entries have two places. -/
theorem markPlace_injective {t i u j : Nat} (ht : t < 10) (hi : i < entryCount t) (hu : u < 10) (hj : j < entryCount u)
    (h : markBase u + j = markBase t + i) : (u, j) = (t, i) := by
  rcases Nat.lt_trichotomy t u with hlt | rfl | hlt
  · exact absurd h.symm (markPlace_ne ht hi hu hlt)
  · rw [Nat.add_left_cancel h]
  · exact absurd h (markPlace_ne hu hj ht hlt)

theorem Tbs.setMark_of_marked {t : Tbs} {a i : Nat} (h : t.mark a i = true) : t.setMark a i = t := if_pos h

theorem Tbs.setMark_of_unmarked {t : Tbs} {a i : Nat} (h : t.mark a i = false) :
    t.setMark a i = { t with marks := putAt t.marks (markBase a + i) true, written := t.written + 1 } :=
  if_neg (Bool.eq_false_iff.mp h)

/-- Marking an entry touches the marks and the count alone. -/
theorem Tbs.setMark_frame (t : Tbs) (a i : Nat) :
    t.setMark a i = { t with marks := (t.setMark a i).marks, written := (t.setMark a i).written } :=
  iteInduction (motive := fun u : Tbs => u = { t with marks := u.marks, written := u.written }) (fun _ => rfl) fun _ => rfl

@[simp] theorem Tbs.setMark_activeBank (t : Tbs) (a i : Nat) : (t.setMark a i).activeBank = t.activeBank :=
  (congrArg Tbs.activeBank (t.setMark_frame a i) :)
@[simp] theorem Tbs.setMark_shadowBank (t : Tbs) (a i : Nat) : (t.setMark a i).shadowBank = t.shadowBank :=
  (congrArg Tbs.shadowBank (t.setMark_frame a i) :)
@[simp] theorem Tbs.setMark_active (t : Tbs) (a i : Nat) : (t.setMark a i).active = t.active :=
  (congrArg Tbs.active (t.setMark_frame a i) :)
@[simp] theorem Tbs.setMark_bankValid (t : Tbs) (a i : Nat) : (t.setMark a i).bankValid = t.bankValid :=
  (congrArg Tbs.bankValid (t.setMark_frame a i) :)
@[simp] theorem Tbs.setMark_device (t : Tbs) (a i : Nat) : (t.setMark a i).device = t.device :=
  (congrArg Tbs.device (t.setMark_frame a i) :)
@[simp] theorem Tbs.setMark_shadow (t : Tbs) (a i : Nat) : (t.setMark a i).shadow = t.shadow :=
  (congrArg Tbs.shadow (t.setMark_frame a i) :)

theorem Tbs.setMark_written (t : Tbs) (a i : Nat) :
    (t.setMark a i).written = t.written + (if t.mark a i then 0 else 1) :=
  (apply_ite Tbs.written _ _ _).trans (apply_ite (t.written + ·) (t.mark a i = true) 0 1).symm

theorem getElem?_putAt_same {α : Type} {n : Nat} (v : Vector α n) {i : Nat} (h : i < n) (x : α) :
    (putAt v i x)[i]? = some x := (congrArg (·[i]?) (dif_pos h)).trans (Vector.getElem?_set_self h)

theorem getElem?_putAt_other {α : Type} {n : Nat} (v : Vector α n) {i j : Nat} (h : j ≠ i) (x : α) :
    (putAt v i x)[j]? = v[j]? :=
  if hi : i < n then (congrArg (·[j]?) (dif_pos hi)).trans (Vector.getElem?_set_ne hi h.symm)
  else congrArg (·[j]?) (dif_neg hi)

theorem Tbs.setMark_mark_same (t : Tbs) {a i : Nat} (ha : a < 10) (hi : i < entryCount a) :
    (t.setMark a i).mark a i = true := by
  rcases h : t.mark a i
  case true => exact (congrArg (fun u : Tbs => u.mark a i) (Tbs.setMark_of_marked h)).trans h
  case false =>
    exact (congrArg (fun u : Tbs => u.mark a i) (Tbs.setMark_of_unmarked h)).trans
      (congrArg (·.getD false) (getElem?_putAt_same t.marks (markPlace_lt ha hi) true))

theorem Tbs.setMark_mark_other (t : Tbs) {a i c j : Nat} (ha : a < 10) (hi : i < entryCount a) (hc : c < 10)
    (hj : j < entryCount c) (hne : (c, j) ≠ (a, i)) : (t.setMark a i).mark c j = t.mark c j := by
  rcases h : t.mark a i
  case true => exact congrArg (fun u : Tbs => u.mark c j) (Tbs.setMark_of_marked h)
  case false =>
    exact (congrArg (fun u : Tbs => u.mark c j) (Tbs.setMark_of_unmarked h)).trans
      (congrArg (·.getD false) (getElem?_putAt_other t.marks (fun he => hne (markPlace_injective ha hi hc hj he)) true))

/-! ## TABLE_OPEN, TABLE_ABANDON and BANK_SWAP (R23, R30, R32) -/

/-- A telegram taken with a status alone is answered with it. -/
theorem answered_plain {kind tag : Byte} {r : State × Answer} {s : State} {st : Status} (h : r = (s, plain st)) :
    (.next (answerAlone kind tag r) : Host.Outcome State Fault Refusal) = .next (s.answered kind tag st []) :=
  congrArg (fun r => Host.Outcome.next (answerAlone kind tag r)) h

/-- The store after a TABLE_OPEN that is taken (R23). -/
def Tbs.opened (t : Tbs) : Tbs := { (t.withShadow t.activeBank).clearMarks with shadow := .opened }

@[simp] theorem Tbs.opened_activeBank (t : Tbs) : t.opened.activeBank = t.activeBank :=
  t.withShadow_activeBank t.activeBank
@[simp] theorem Tbs.opened_shadowBank (t : Tbs) : t.opened.shadowBank = t.activeBank :=
  t.withShadow_shadowBank t.activeBank
@[simp] theorem Tbs.opened_active (t : Tbs) : t.opened.active = t.active := t.withShadow_active t.activeBank
@[simp] theorem Tbs.opened_bankValid (t : Tbs) : t.opened.bankValid = t.bankValid := t.withShadow_bankValid t.activeBank
@[simp] theorem Tbs.opened_device (t : Tbs) : t.opened.device = t.device := t.withShadow_device t.activeBank

theorem takeTableOpen_swapPending {s : State} (h : s.tbs.shadow = .swapPending) :
    takeTableOpen s = (s, plain .collision) := if_pos h
theorem takeTableOpen_done {s : State} (h : s.tbs.shadow ≠ .swapPending) :
    takeTableOpen s = (s.withTbs s.tbs.opened, plain .done) := if_neg h

/-- TABLE_ABANDON with the state of the shadow given (R32). -/
def abandonBy (s : State) : ShadowState → State × Answer
  | .closed => (s, plain .done)
  | .swapPending => (s, plain .collision)
  | .opened => (s.withTbs { s.tbs.clearMarks with shadow := .closed }, plain .done)
  | .committed => (s.withTbs { s.tbs.clearMarks with shadow := .closed }, plain .done)

theorem takeTableAbandon_of {s : State} {x : ShadowState} (h : s.tbs.shadow = x) : takeTableAbandon s = abandonBy s x :=
  congrArg (abandonBy s) h
theorem takeTableAbandon_done {s : State} (h : s.tbs.shadow = .opened ∨ s.tbs.shadow = .committed) :
    takeTableAbandon s = (s.withTbs { s.tbs.clearMarks with shadow := .closed }, plain .done) :=
  h.elim takeTableAbandon_of takeTableAbandon_of

theorem takeBankSwap_committed {s : State} (h : s.tbs.shadow = .committed) :
    takeBankSwap s = (s.withTbs { s.tbs with shadow := .swapPending }, plain .done) := if_pos h
theorem takeBankSwap_refused {s : State} (h : s.tbs.shadow ≠ .committed) :
    takeBankSwap s = (s, plain .refusedState) := if_neg h

/-- Settles O16: the shadow after each telegram, state by state. -/
theorem shadowIsOpenedAbandonedAndOffered : Obligations.ShadowIsOpenedAbandonedAndOffered := by
  refine ⟨fun tag s => ⟨fun h => ⟨_, answered_plain (takeTableOpen_done h), ?_⟩,
      fun h => answered_plain (takeTableOpen_swapPending h), ⟨_, rfl, rfl, rfl, rfl⟩⟩,
    fun tag s => ⟨fun h => answered_plain (takeTableAbandon_done h), fun h => answered_plain (takeTableAbandon_of h),
      fun h => answered_plain (takeTableAbandon_of h), fun h => answered_plain (takeBankSwap_committed h),
      fun h => answered_plain (takeBankSwap_refused h)⟩⟩
  exact ⟨rfl, rfl, s.tbs.opened_shadowBank, s.tbs.opened_activeBank, s.tbs.opened_active, s.tbs.opened_bankValid,
    s.tbs.opened_device, rfl, fun i => replicate_get _ i⟩

/-! ## TABLE_WRITE and TABLE_READ (R24, R33) -/

/-- The store after an entry of the shadow is written (R24). -/
def Tbs.stored (t : Tbs) (table index : Nat) (entry : List Byte) : Tbs :=
  (t.withShadow (t.shadowBank.putEntry table index entry)).setMark table index

@[simp] theorem Tbs.stored_activeBank (t : Tbs) (a i : Nat) (e : List Byte) : (t.stored a i e).activeBank = t.activeBank :=
  (Tbs.setMark_activeBank _ a i).trans (t.withShadow_activeBank _)
@[simp] theorem Tbs.stored_shadowBank (t : Tbs) (a i : Nat) (e : List Byte) :
    (t.stored a i e).shadowBank = t.shadowBank.putEntry a i e :=
  (Tbs.setMark_shadowBank _ a i).trans (t.withShadow_shadowBank _)
@[simp] theorem Tbs.stored_active (t : Tbs) (a i : Nat) (e : List Byte) : (t.stored a i e).active = t.active :=
  (Tbs.setMark_active _ a i).trans (t.withShadow_active _)
@[simp] theorem Tbs.stored_bankValid (t : Tbs) (a i : Nat) (e : List Byte) : (t.stored a i e).bankValid = t.bankValid :=
  (Tbs.setMark_bankValid _ a i).trans (t.withShadow_bankValid _)
@[simp] theorem Tbs.stored_device (t : Tbs) (a i : Nat) (e : List Byte) : (t.stored a i e).device = t.device :=
  (Tbs.setMark_device _ a i).trans (t.withShadow_device _)
@[simp] theorem Tbs.stored_shadow (t : Tbs) (a i : Nat) (e : List Byte) : (t.stored a i e).shadow = t.shadow :=
  (Tbs.setMark_shadow _ a i).trans (t.withShadow_shadow _)
theorem Tbs.stored_written (t : Tbs) (a i : Nat) (e : List Byte) :
    (t.stored a i e).written = t.written + (if t.mark a i then 0 else 1) :=
  (Tbs.setMark_written _ a i).trans (congrArg (fun u : Tbs => u.written + if u.mark a i then 0 else 1) (t.withShadow_frame _) :)

theorem Tbs.stored_mark_other {t : Tbs} {a i c j : Nat} {e : List Byte} (ha : a < 10) (hi : i < entryCount a)
    (h : c < 10 ∧ j < entryCount c) (hne : (c, j) ≠ (a, i)) : (t.stored a i e).mark c j = t.mark c j :=
  (Tbs.setMark_mark_other _ ha hi h.1 h.2 hne).trans (t.withShadow_mark _ c j)

/-- TABLE_WRITE with the state of the shadow given (R24). -/
def writeBy (table index : Byte) (entry : List Byte) (s : State) : ShadowState → State × Answer
  | .closed => (s, plain .notOpen)
  | .committed => (s, plain .refusedState)
  | .swapPending => (s, plain .collision)
  | .opened =>
    if 10 ≤ table.toNat then (s, plain .unknownTable)
    else if entryCount table.toNat ≤ index.toNat then (s, plain .refusedRange)
    else if entry.length ≠ entryLength table.toNat then (s, plain .refusedRange)
    else (s.withTbs (s.tbs.stored table.toNat index.toNat entry), plain .done)

section
variable {table index : Byte} {entry : List Byte} {s : State}

theorem takeTableWrite_of {x : ShadowState} (hs : s.tbs.shadow = x) :
    takeTableWrite table index entry s = writeBy table index entry s x := congrArg (writeBy table index entry s) hs
theorem takeTableWrite_unknownTable (hs : s.tbs.shadow = .opened) (ht : 10 ≤ table.toNat) :
    takeTableWrite table index entry s = (s, plain .unknownTable) := (takeTableWrite_of hs).trans (if_pos ht)
theorem takeTableWrite_noEntry (hs : s.tbs.shadow = .opened) (ht : table.toNat < 10)
    (hi : entryCount table.toNat ≤ index.toNat) : takeTableWrite table index entry s = (s, plain .refusedRange) :=
  (takeTableWrite_of hs).trans ((if_neg ht.not_ge).trans (if_pos hi))
theorem takeTableWrite_badLength (hs : s.tbs.shadow = .opened) (ht : table.toNat < 10)
    (hi : index.toNat < entryCount table.toNat) (hl : entry.length ≠ entryLength table.toNat) :
    takeTableWrite table index entry s = (s, plain .refusedRange) :=
  (takeTableWrite_of hs).trans ((if_neg ht.not_ge).trans ((if_neg hi.not_ge).trans (if_pos hl)))
theorem takeTableWrite_done (hs : s.tbs.shadow = .opened) (ht : table.toNat < 10)
    (hi : index.toNat < entryCount table.toNat) (hl : entry.length = entryLength table.toNat) :
    takeTableWrite table index entry s = (s.withTbs (s.tbs.stored table.toNat index.toNat entry), plain .done) :=
  (takeTableWrite_of hs).trans ((if_neg ht.not_ge).trans ((if_neg hi.not_ge).trans (if_neg (not_not.mpr hl))))

end

/-- Answering commutes with a choice. -/
theorem answerAlone_ite {p q : Prop} [Decidable p] [Decidable q] {kind tag : Byte} {x y : State × Answer} {s t : State}
    (hpq : p ↔ q) (hx : answerAlone kind tag x = s) (hy : answerAlone kind tag y = t) :
    answerAlone kind tag (if p then x else y) = if q then s else t :=
  (apply_ite _ p x y).trans (if_congr hpq hx hy)

theorem two_le_toNat_iff (b : Byte) : 2 ≤ b.toNat ↔ b ≠ 0 ∧ b ≠ 1 :=
  (Nat.two_le_iff _).trans (and_congr (not_congr (BitVec.toNat_inj (y := 0))) (not_congr (BitVec.toNat_inj (y := 1))))

/-- TABLE_READ by the first of its cases (R33). -/
theorem exec_tableRead_cases (tag bank table index : Byte) (s : State) :
    exec (.tableRead tag bank table index) s =
      .next
        (if bank ≠ 0 ∧ bank ≠ 1 then s.answered 3 tag .refusedRange []
        else if 9 < table.toNat then s.answered 3 tag .unknownTable []
        else if ¬ index.toNat < entryCount table.toNat then s.answered 3 tag .refusedRange []
        else if bank = 0 then
          s.answered 3 tag .done ([table, index, 0] ++ s.tbs.activeBank.entryBytes table.toNat index.toNat)
        else
          s.answered 3 tag .done
            ([table, index, if s.tbs.mark table.toNat index.toNat then 1 else 0] ++
              s.tbs.shadowBank.entryBytes table.toNat index.toNat)) := by
  exact congrArg Host.Outcome.next (answerAlone_ite (two_le_toNat_iff bank) rfl (answerAlone_ite Iff.rfl rfl
    (answerAlone_ite Nat.not_lt.symm rfl (apply_ite₂ (fun (mark : Bool) (b : Bank) => s.answered 3 tag .done
      ([table, index] ++ flag8 mark ++ b.entryBytes table.toNat index.toNat)) (bank = 0) _ _ _ _))))

/-- Settles O17: the first case of each telegram that holds; a stored entry is `Tbs.stored`. -/
theorem tableWriteAndReadByTheFirstCase : Obligations.TableWriteAndReadByTheFirstCase := by
  refine ⟨?_, exec_tableRead_cases⟩
  intro tag table index entry s refused
  exact ⟨fun h => answered_plain (takeTableWrite_of h), fun h => answered_plain (takeTableWrite_of h),
    fun h => answered_plain (takeTableWrite_of h), fun h ht => answered_plain (takeTableWrite_unknownTable h ht),
    fun h ht hi => answered_plain (takeTableWrite_noEntry h ht hi),
    fun h ht hi hl => answered_plain (takeTableWrite_badLength h ht hi hl),
    fun h ht hi hl => ⟨_, answered_plain (takeTableWrite_done h ht hi hl), rfl, (s.tbs.stored_shadow _ _ _).trans h,
      s.tbs.stored_shadowBank _ _ _, s.tbs.stored_activeBank _ _ _, s.tbs.stored_active _ _ _, s.tbs.stored_device _ _ _,
      s.tbs.stored_bankValid _ _ _, Tbs.setMark_mark_same _ ht hi, fun _ hp => Tbs.stored_mark_other ht hi (entry_of_visited hp),
      s.tbs.stored_written _ _ _⟩⟩

/-! ## TABLE_COMMIT (R25) -/

theorem exec_tableCommit_of {tag : Byte} {expected : Half} {s : State} {r : State × Answer} (h : takeTableCommit expected s = r) :
    exec (.tableCommit tag expected) s = .next (answerAlone 4 tag r) :=
  congrArg (fun r => Host.Outcome.next (answerAlone 4 tag r)) h

/-- A TABLE_COMMIT in an open shadow with the right count, with what validation finds given. -/
def commitBy (s : State) : Option (Nat × Nat) → State × Answer
  | some p => (s, { status := .inconsistent, payload := nat8 p.1 ++ nat8 p.2 })
  | none => (s.withTbs { s.tbs with shadow := .committed }, plain .done)

theorem exec_tableCommit_checked {tag : Byte} {expected : Half} {s : State} {o : Option (Nat × Nat)}
    (hs : s.tbs.shadow = .opened) (he : expected.toNat = s.tbs.written) (ho : firstOffender s.tbs.shadowBank = o) :
    exec (.tableCommit tag expected) s = .next (answerAlone 4 tag (commitBy s o)) :=
  exec_tableCommit_of ((if_neg (not_not.mpr hs)).trans ((if_neg (not_not.mpr he)).trans (congrArg (commitBy s) ho)))

theorem firstOffender_eq_some {b : Bank} {before after : List (Nat × Nat)} {p : Nat × Nat}
    (h : visitingOrder = before ++ p :: after) (hb : ∀ q ∈ before, entryBroken b q.1 q.2 = false)
    (hp : entryBroken b p.1 p.2 = true) : firstOffender b = some p :=
  List.find?_eq_some_iff_append.mpr ⟨hp, before, after, h, fun q hq => (congrArg (!·) (hb q hq) :)⟩

theorem firstOffender_emptyBank : firstOffender emptyBank = some (0, 0) :=
  firstOffender_eq_some (before := []) (after := visitingOrder.tail) rfl (List.forall_mem_nil _) rfl

/-- Settles O18: the count, then what validation finds. -/
theorem tableCommitFindsTheFirstOffender : Obligations.TableCommitFindsTheFirstOffender := by
  intro tag expected s
  exact ⟨fun hs => exec_tableCommit_of (if_pos hs), fun hs he => exec_tableCommit_of ((if_neg (not_not.mpr hs)).trans (if_pos he)),
    fun _ _ _ _ hs he hv hb hp => exec_tableCommit_checked hs he (firstOffender_eq_some hv hb hp),
    fun hs he hb => exec_tableCommit_checked hs he (List.find?_eq_none.mpr fun p hp => Bool.eq_false_iff.mp (hb p hp)),
    fun hs he hw hcopy => ⟨fun hvalid hchecked =>
        exec_tableCommit_checked hs (he.trans hw.symm) ((congrArg firstOffender hcopy).trans (hchecked.1 hvalid)),
      fun hempty => exec_tableCommit_checked hs (he.trans hw.symm)
        ((congrArg firstOffender (hcopy.trans hempty)).trans firstOffender_emptyBank)⟩⟩

end Machine
end Sys2Proof
end

section
/-! SUPPORT. Table entries as bytes: what an entry's layout decodes, it encodes again (R193, R198). -/

namespace Sys2Proof
namespace Machine

/-! ## Fields (R193) -/

theorem halfBytes_halfAt (b : List Byte) (i : Nat) : halfBytes (halfAt b i) = [byteAt b i, byteAt b (i + 1)] :=
  congrArg₂ (fun x y => [x, y]) BitVec.extractLsb'_append_eq_left BitVec.extractLsb'_append_eq_right

theorem wordBytes_wordAt (b : List Byte) (i : Nat) :
    wordBytes (wordAt b i) = [byteAt b i, byteAt b (i + 1), byteAt b (i + 2), byteAt b (i + 3)] :=
  (congrArg₂ (fun x y => halfBytes x ++ halfBytes y) BitVec.extractLsb'_append_eq_left BitVec.extractLsb'_append_eq_right).trans
    (congrArg₂ (· ++ ·) (halfBytes_halfAt b i) (halfBytes_halfAt b (i + 2)))

theorem longBytes_longAt (b : List Byte) (i : Nat) :
    longBytes (longAt b i) = [byteAt b i, byteAt b (i + 1), byteAt b (i + 2), byteAt b (i + 3), byteAt b (i + 4),
      byteAt b (i + 5), byteAt b (i + 6), byteAt b (i + 7)] :=
  (congrArg₂ (fun x y => wordBytes x ++ wordBytes y) BitVec.extractLsb'_append_eq_left BitVec.extractLsb'_append_eq_right).trans
    (congrArg₂ (· ++ ·) (wordBytes_wordAt b i) (wordBytes_wordAt b (i + 4)))

/-- Some bytes of a list from a place on, and the first ones. -/
def bytesFrom (b : List Byte) (o n : Nat) : List Byte := (List.range n).map fun k => byteAt b (o + k)
def firstBytes (n : Nat) (b : List Byte) : List Byte := (List.range n).map (byteAt b)

theorem length_firstBytes (n : Nat) (b : List Byte) : (firstBytes n b).length = n :=
  (List.length_map _).trans List.length_range

theorem take_eq_firstBytes {n : Nat} {b : List Byte} (h : n ≤ b.length) : b.take n = firstBytes n b :=
  List.ext_getElem ((List.length_take_of_le h).trans (length_firstBytes n b).symm) fun _ hi _ =>
    (List.getElem_take.trans (List.getD_eq_getElem b 0 (hi.trans_le (List.length_take_le' n b))).symm).trans
      ((congrArg (byteAt b) (List.getElem_range _)).symm.trans (List.getElem_map _).symm)

theorem padTo_firstBytes (n : Nat) (b : List Byte) : padTo n (firstBytes n b) = firstBytes n b :=
  (congrArg (fun k => firstBytes n b ++ List.replicate (n - k) 0) (length_firstBytes n b)).trans
    ((congrArg (fun k => firstBytes n b ++ List.replicate k 0) (Nat.sub_self n)).trans (List.append_nil _))

/-- A field as the codec writes it: two, four and eight bytes are a number, any other count stands for single bytes. -/
def fieldBytes (b : List Byte) (o n : Nat) : List Byte :=
  if n = 2 then halfBytes (halfAt b o) else if n = 4 then wordBytes (wordAt b o)
  else if n = 8 then longBytes (longAt b o) else bytesFrom b o n

theorem fieldBytes_eq (b : List Byte) : fieldBytes b = bytesFrom b := by
  funext o n
  refine iteInduction (motive := (· = bytesFrom b o n)) (fun h => h ▸ halfBytes_halfAt b o) fun _ =>
    iteInduction (motive := (· = bytesFrom b o n)) (fun h => h ▸ wordBytes_wordAt b o) fun _ =>
      iteInduction (motive := (· = bytesFrom b o n)) (fun h => h ▸ longBytes_longAt b o) fun _ => rfl

/-- The fields of the widths given, one after another. -/
def layout (field : Nat → Nat → List Byte) (widths : List Nat) : List Byte :=
  widths.foldr (fun n rest o => field o n ++ rest (o + n)) (fun _ => []) 0

/-- Fields are written as the bytes they were read from. -/
theorem layout_fieldBytes (b : List Byte) (widths : List Nat) : layout (fieldBytes b) widths = layout (bytesFrom b) widths :=
  congrArg (layout · widths) (fieldBytes_eq b)

/-! ## Layouts (R198) -/

section
variable (b : List Byte)

theorem encode_decode_ring : encodeRing (decodeRing b) = padTo 36 (firstBytes 4 b) :=
  congrArg (padTo 36) (layout_fieldBytes b [2, 2])
theorem encode_decode_combustion : encodeCombustion (decodeCombustion b) = firstBytes 36 b :=
  layout_fieldBytes b [1, 2, 2, 4, 2, 1, 4, 2, 4, 2, 2, 5, 3, 2]
theorem encode_decode_turbine : encodeTurbine (decodeTurbine b) = padTo 36 (firstBytes 19 b) :=
  congrArg (padTo 36) (layout_fieldBytes b [4, 2, 1, 2, 2, 2, 2, 2, 2])
theorem encode_decode_split : encodeSplit (decodeSplit b) = padTo 36 (firstBytes 1 b) := rfl
theorem encode_decode_emission : encodeEmission (decodeEmission b) = padTo 36 (firstBytes 11 b) :=
  congrArg (padTo 36) (layout_fieldBytes b [3, 2, 2, 3, 1])
theorem encode_decode_dosing : encodeDosing (decodeDosing b) = padTo 36 (firstBytes 28 b) :=
  congrArg (padTo 36) (layout_fieldBytes b [2, 2, 2, 2, 2, 1, 2, 2, 2, 2, 2, 2, 1, 2, 2])
theorem encode_decode_point : encodePoint (decodePoint b) = firstBytes 28 b :=
  layout_fieldBytes b [1, 1, 2, 1, 2, 2, 4, 4, 4, 4, 3]
theorem encode_decode_output : encodeOutput (decodeOutput b) = firstBytes 12 b :=
  layout_fieldBytes b [1, 1, 2, 2, 1, 2, 2, 1]
theorem encode_decode_pair : encodePair (decodePair b) = firstBytes 5 b := layout_fieldBytes b [3, 2]
theorem encode_decode_trip : encodeTrip (decodeTrip b) = firstBytes 4 b := rfl
theorem encode_decode_group : encodeGroup (decodeGroup b) = firstBytes 26 b :=
  layout_fieldBytes b [8, 1, 2, 1, 2, 1, 2, 1, 2, 3, 1, 2]
theorem encode_decode_loop : encodeLoop (decodeLoop b) = firstBytes 19 b :=
  layout_fieldBytes b [3, 4, 2, 4, 1, 2, 2, 1]
theorem encode_decode_step : encodeStep (decodeStep b) = firstBytes 10 b := layout_fieldBytes b [5, 2, 2, 1]
theorem encode_decode_block : encodeBlock (decodeBlock b) = firstBytes 11 b := layout_fieldBytes b [1, 2, 4, 2, 2]
theorem encode_decode_component : encodeComponent (decodeComponent b) = firstBytes 10 b :=
  layout_fieldBytes b [3, 2, 1, 1, 2, 1]

end

/-! ## One entry replaced -/

/-- The bytes at a place are those of the entry that the vector holds there. -/
theorem bytesAt_eq {α : Type} {n : Nat} (v : Vector α n) (enc : α → List Byte) (i : Nat) : bytesAt v enc i = v[i]?.elim [] enc :=
  if h : i < n then (dif_pos h).trans (congrArg (Option.elim · [] enc) (Vector.getElem?_eq_getElem h).symm)
  else (dif_neg h).trans (congrArg (Option.elim · [] enc) (Vector.getElem?_eq_none (Nat.le_of_not_lt h)).symm)

theorem bytesAt_putAt_same {α : Type} {n : Nat} (v : Vector α n) (enc : α → List Byte) (x : α) {i : Nat} (h : i < n) :
    bytesAt (putAt v i x) enc i = enc x :=
  (bytesAt_eq _ enc i).trans (congrArg (Option.elim · [] enc) (getElem?_putAt_same v h x))

theorem bytesAt_putAt_other {α : Type} {n : Nat} (v : Vector α n) (enc : α → List Byte) (x : α) {i j : Nat} (h : j ≠ i) :
    bytesAt (putAt v i x) enc j = bytesAt v enc j :=
  (bytesAt_eq _ enc j).trans ((congrArg (Option.elim · [] enc) (getElem?_putAt_other v h x)).trans (bytesAt_eq v enc j).symm)

section
variable {t i : Nat} {e : List Byte}

theorem readsBack_eq (h : namedBytes t i ≤ e.length) : padTo (entryLength t) (firstBytes (namedBytes t i) e) = readsBack t i e :=
  congrArg (padTo (entryLength t)) (take_eq_firstBytes h).symm

theorem readsBack_of_whole (hl : e.length = entryLength t) (hn : namedBytes t i = entryLength t) :
    firstBytes (entryLength t) e = readsBack t i e :=
  (padTo_firstBytes _ e).symm.trans ((congrArg (fun n => padTo (entryLength t) (firstBytes n e)) hn.symm).trans
    (readsBack_eq (hn.trans hl.symm).le))

/-- An entry of a table above 0 reads back, where its layout encodes again what it decodes. -/
theorem bytesAt_reads_back {α : Type} {n : Nat} (v : Vector α n) {enc : α → List Byte} {dec : List Byte → α}
    (h : enc (dec e) = firstBytes (entryLength t) e) (hn : namedBytes t i = entryLength t) (hi : i < n)
    (hl : e.length = entryLength t) : bytesAt (putAt v i (dec e)) enc i = readsBack t i e :=
  (bytesAt_putAt_same v enc _ hi).trans (h.trans (readsBack_of_whole hl hn))

end

theorem namedBytes_setting_le : ∀ i < 8, namedBytes 0 i ≤ 36 := by decide

/-- An entry of table 0 reads back as the bytes its layout names, with zeros after them. -/
theorem entryBytes_putSetting (b : Bank) (e : List Byte) :
    ∀ i < 8, (b.putEntry 0 i e).entryBytes 0 i = padTo 36 (firstBytes (namedBytes 0 i) e) :=
  have whole : encodeCombustion (decodeCombustion e) = padTo 36 (firstBytes 36 e) :=
    (encode_decode_combustion e).trans (padTo_firstBytes 36 e).symm
  forall_settings (P := fun i => (b.putEntry 0 i e).entryBytes 0 i = padTo 36 (firstBytes (namedBytes 0 i) e))
    (encode_decode_ring e) whole whole (encode_decode_turbine e) (encode_decode_split e) (encode_decode_emission e)
    (encode_decode_emission e) (encode_decode_dosing e)

/-- An entry reads back as the bytes its layout names (R193, R198). -/
theorem entryBytes_putEntry_same (b : Bank) {i : Nat} {e : List Byte} : ∀ t < 10, i < entryCount t → e.length = entryLength t →
    (b.putEntry t i e).entryBytes t i = readsBack t i e :=
  forall_tables
    (fun hi hl => (entryBytes_putSetting b e i hi).trans (readsBack_eq ((namedBytes_setting_le i hi).trans_eq hl.symm)))
    (bytesAt_reads_back b.points (encode_decode_point e) rfl) (bytesAt_reads_back b.outputs (encode_decode_output e) rfl)
    (bytesAt_reads_back b.pairs (encode_decode_pair e) rfl) (bytesAt_reads_back b.trips (encode_decode_trip e) rfl)
    (bytesAt_reads_back b.groups (encode_decode_group e) rfl) (bytesAt_reads_back b.loops (encode_decode_loop e) rfl)
    (bytesAt_reads_back b.steps (encode_decode_step e) rfl) (bytesAt_reads_back b.blocks (encode_decode_block e) rfl)
    (bytesAt_reads_back b.components (encode_decode_component e) rfl)

/-- The bank `b` with the part that entry `i` of table `t` writes taken from `z`: of table 0 one entry, else one table. -/
def Bank.patched (t i : Nat) (z b : Bank) : Bank where
  ring := if t = 0 ∧ i = 0 then z.ring else b.ring
  combustion := ⟨if t = 0 ∧ i = 1 then z.combustion.one else b.combustion.one,
    if t = 0 ∧ i = 2 then z.combustion.two else b.combustion.two⟩
  turbine := if t = 0 ∧ i = 3 then z.turbine else b.turbine
  split := if t = 0 ∧ i = 4 then z.split else b.split
  emission := ⟨if t = 0 ∧ i = 5 then z.emission.one else b.emission.one,
    if t = 0 ∧ i = 6 then z.emission.two else b.emission.two⟩
  dosing := if t = 0 ∧ i = 7 then z.dosing else b.dosing
  points := if t = 1 then z.points else b.points
  outputs := if t = 2 then z.outputs else b.outputs
  pairs := if t = 3 then z.pairs else b.pairs
  trips := if t = 4 then z.trips else b.trips
  groups := if t = 5 then z.groups else b.groups
  loops := if t = 6 then z.loops else b.loops
  steps := if t = 7 then z.steps else b.steps
  blocks := if t = 8 then z.blocks else b.blocks
  components := if t = 9 then z.components else b.components

/-- A write leaves all but its own part of the bank (R24). -/
theorem putEntry_patched (b : Bank) {i : Nat} (e : List Byte) : ∀ t < 10, i < entryCount t →
    b.putEntry t i e = Bank.patched t i (b.putEntry t i e) b :=
  forall_tables
    (forall_settings (P := fun i => b.putEntry 0 i e = Bank.patched 0 i (b.putEntry 0 i e) b) rfl rfl rfl rfl rfl rfl rfl rfl i)
    (fun _ => rfl) (fun _ => rfl) (fun _ => rfl) (fun _ => rfl) (fun _ => rfl) (fun _ => rfl) (fun _ => rfl) (fun _ => rfl)
    (fun _ => rfl)

/-- Outside the table that a write falls in, and outside its entry of table 0, the entries are those of `b`. -/
theorem entryBytes_patched_setting (z b : Bank) {t i : Nat} : ∀ j < 8, ¬(t = 0 ∧ i = j) →
    (Bank.patched t i z b).entryBytes 0 j = b.entryBytes 0 j :=
  forall_settings (fun h => congrArg encodeRing (if_neg h)) (fun h => congrArg encodeCombustion (if_neg h))
    (fun h => congrArg encodeCombustion (if_neg h)) (fun h => congrArg encodeTurbine (if_neg h))
    (fun h => congrArg encodeSplit (if_neg h)) (fun h => congrArg encodeEmission (if_neg h))
    (fun h => congrArg encodeEmission (if_neg h)) (fun h => congrArg encodeDosing (if_neg h))
theorem entryBytes_patched_table (z b : Bank) {t i j : Nat} : ∀ u < 10, u ≠ 0 → t ≠ u →
    (Bank.patched t i z b).entryBytes u j = b.entryBytes u j :=
  forall_tables (fun h => absurd rfl h) (fun _ h => congrArg (bytesAt · _ j) (if_neg h))
    (fun _ h => congrArg (bytesAt · _ j) (if_neg h)) (fun _ h => congrArg (bytesAt · _ j) (if_neg h))
    (fun _ h => congrArg (bytesAt · _ j) (if_neg h)) (fun _ h => congrArg (bytesAt · _ j) (if_neg h))
    (fun _ h => congrArg (bytesAt · _ j) (if_neg h)) (fun _ h => congrArg (bytesAt · _ j) (if_neg h))
    (fun _ h => congrArg (bytesAt · _ j) (if_neg h)) (fun _ h => congrArg (bytesAt · _ j) (if_neg h))

/-- Another entry of the same table above 0 reads as before. -/
theorem entryBytes_putEntry_sameTable (b : Bank) {i j : Nat} (e : List Byte) (h : j ≠ i) : ∀ t < 10, t ≠ 0 →
    (b.putEntry t i e).entryBytes t j = b.entryBytes t j :=
  forall_tables (fun h => absurd rfl h) (fun _ => bytesAt_putAt_other _ _ _ h) (fun _ => bytesAt_putAt_other _ _ _ h)
    (fun _ => bytesAt_putAt_other _ _ _ h) (fun _ => bytesAt_putAt_other _ _ _ h) (fun _ => bytesAt_putAt_other _ _ _ h)
    (fun _ => bytesAt_putAt_other _ _ _ h) (fun _ => bytesAt_putAt_other _ _ _ h) (fun _ => bytesAt_putAt_other _ _ _ h)
    (fun _ => bytesAt_putAt_other _ _ _ h)

/-- Another entry reads as before. -/
theorem entryBytes_putEntry_other (b : Bank) {t u i j : Nat} (e : List Byte) (ht : t < 10) (hi : i < entryCount t)
    (huj : u < 10 ∧ j < entryCount u) (h : (u, j) ≠ (t, i)) :
    (b.putEntry t i e).entryBytes u j = b.entryBytes u j := by
  by_cases h0 : u = 0
  · subst h0
    rw [putEntry_patched b e t ht hi]
    exact entryBytes_patched_setting _ b j huj.2 fun hc => h (Prod.ext hc.1.symm hc.2.symm)
  · by_cases htu : t = u
    · subst htu
      exact entryBytes_putEntry_sameTable b e (fun hij => h (congrArg (t, ·) hij)) t ht h0
    · rw [putEntry_patched b e t ht hi]
      exact entryBytes_patched_table _ b u huj.1 h0 htu

/-- TABLE_READ of the shadow (R33). -/
theorem exec_tableRead_shadow {tag table index : Byte} {s : State} (ht : table.toNat < 10)
    (hi : index.toNat < entryCount table.toNat) : exec (.tableRead tag 1 table index) s = .next (s.answered 3 tag .done
      ([table, index, if s.tbs.mark table.toNat index.toNat then 1 else 0] ++
        s.tbs.shadowBank.entryBytes table.toNat index.toNat)) :=
  (exec_tableRead_cases tag 1 table index s).trans (congrArg Host.Outcome.next ((if_neg fun h => h.2 rfl).trans
    ((if_neg (Nat.le_of_lt_succ ht).not_gt).trans ((if_neg (not_not.mpr hi)).trans (if_neg (by decide))))))

/-- Settles O14: the entry by `entryBytes_putEntry_same`, its mark by `setMark_mark_same`, the others by the two frame lemmas. -/
theorem tableReadReturnsWhatTableWriteStored : Obligations.TableReadReturnsWhatTableWriteStored := by
  intro s tag tag' table index entry hs ht hi hl
  exact ⟨_, answered_plain (takeTableWrite_done hs ht hi hl), (exec_tableRead_shadow ht hi).trans
      (congrArg₂ (fun (m : Bool) bytes => Host.Outcome.next
          (State.answered _ 3 tag' .done ([table, index, if m then 1 else 0] ++ bytes)))
        (Tbs.setMark_mark_same _ ht hi)
        ((congrArg (Bank.entryBytes · _ _) (s.tbs.stored_shadowBank _ _ _)).trans (entryBytes_putEntry_same _ _ ht hi hl))),
    fun p hp hne => (congrArg (fun b => Bank.entryBytes b p.1 p.2) (s.tbs.stored_shadowBank _ _ _)).trans
      (entryBytes_putEntry_other _ entry ht hi (entry_of_visited hp) hne), s.tbs.stored_activeBank _ _ _⟩

end Machine
end Sys2Proof
end

section
/-! SUPPORT. The written value of an output record, row by row (R160, R162 to R167). -/

namespace Sys2Proof
namespace Machine

/-! ## A condition on an optional value -/

theorem exists_some_eq {α : Type} {t : α} {P : α → Prop} : (∃ u, some t = some u ∧ P u) ↔ P t :=
  (exists_congr fun _ => and_congr_left' Option.some_inj).trans exists_eq_left'
theorem not_exists_none_eq {α : Type} {P : α → Prop} : ¬ ∃ u : α, none = some u ∧ P u :=
  not_exists.mpr fun u h => Option.some_ne_none u h.1.symm

/-- Whether a number is there and meets a condition. -/
def someAnd (P : Nat → Prop) [DecidablePred P] : Option Nat → Bool
  | some n => decide (P n)
  | none => false

theorem someAnd_iff {P : Nat → Prop} [DecidablePred P] (o : Option Nat) : someAnd P o = true ↔ ∃ n, o = some n ∧ P n := by
  rcases o
  case none => exact iff_of_false Bool.false_ne_true not_exists_none_eq
  case some n => exact decide_eq_true_iff.trans exists_some_eq.symm

/-! ## Conversion (R160) and moves (R164) -/

theorem toRaw_zero (e : OutputEntry) : toRaw e 0 = e.rawLow.toNat :=
  congrArg (fun n => e.rawLow.toNat + roundHalfUp n 10000) (Nat.zero_mul _)

/-- A move stays below a bound that its start and its target keep. -/
theorem Mover.toward_le_bound {m : Mover} {target b : Nat} (hm : m.value ≤ b) (ht : target ≤ b) (growth unit : Nat) :
    (m.toward target growth unit).value ≤ b :=
  have bound {c : Prop} [Decidable c] {x : Mover} (hx : ¬ c → x.value ≤ b) : (if c then Mover.rest target else x).value ≤ b :=
    iteInduction (motive := fun x : Mover => x.value ≤ b) (fun _ => ht) hx
  bound fun _ => iteInduction (motive := fun x : Mover => x.value ≤ b)
    (fun _ => bound fun h => (Nat.lt_of_not_le h).le.trans ht)
    fun hdown => bound fun _ => (if_neg hdown).le.trans ((Nat.sub_le _ _).trans hm)

/-! ## Trips are evaluated before the records are written -/

theorem otuWork_run {s : State} (h : s.running = true) :
    otuWork s =
      sduTakeGroups (((evaluateTrips s).withOtu (otuAfter (evaluateTrips s))).raiseAll
        (tripEvents s ++ conflictEvents (evaluateTrips s))) := if_pos h

theorem otuWork_config {s : State} (h : s.running = false) :
    otuWork s = s.withOtu { s.otu with window := Vector.replicate 64 slotUnused } := if_neg (Bool.eq_false_iff.mp h)

theorem otuWork_otu {s : State} (h : s.running = true) : (otuWork s).otu = otuAfter (evaluateTrips s) := by
  rw [otuWork_run h]; rfl

theorem otuAfter_record (u : State) (k : Fin 64) : (otuAfter u).records.get k = (recordAfter u k).1 := tabulate_get _ k

theorem otuAfter_pub (u : State) (k : Fin 64) : (otuAfter u).pub.get k = (recordAfter u k).2 := tabulate_get _ k

/-! ## Rows (R162) -/

section
variable (u : State) (k : Fin 64)

/-- The value a work writes of a record with a source. -/
def writtenBy : Nat := (rowMover u k (rowOf u k)).value

theorem recordAfter_source {u : State} {k : Fin 64} (h : hasSource (outputOf u k) = true) :
    recordAfter u k = recordByRow u k (rowOf u k) := if_pos h

theorem wasActive_of {u : State} {k : Fin 64} {o : Option Nat} (h : (u.otu.records.get k).last = o) :
    wasActive u k = someAnd (rawZero u k < ·) o := congrArg (someAnd (rawZero u k < ·)) h

theorem wasActive_of_unwritten {u : State} {k : Fin 64} (h : (u.otu.records.get k).last = none) : wasActive u k = false :=
  wasActive_of h

theorem wasActive_iff : wasActive u k = true ↔ ∃ v, (u.otu.records.get k).last = some v ∧ rawZero u k < v := someAnd_iff _

theorem upperRow_cases : upperRow u k = none ∨ upperRow u k = some .passive ∨ upperRow u k = some .hold :=
  iteInduction (motive := fun x => x = none ∨ x = some OutRow.passive ∨ x = some .hold) (fun _ => .inr (.inl rfl)) fun _ =>
    iteInduction (motive := fun x => x = none ∨ x = some OutRow.passive ∨ x = some .hold) (fun _ => .inr (.inr rfl))
      fun _ => .inl rfl

theorem rowOf_upper {u : State} {k : Fin 64} {o : Option OutRow} (h : upperRow u k = o) :
    rowOf u k = o.getD (if pairWaits u k then .pairZero else .limited) := congrArg (Option.getD · _) h

/-- The value under the rate limit, by the last written one (R164). -/
def limitedFrom (u : State) (k : Fin 64) : Option Nat → Mover
  | none => { value := scaledSource u k, acc := (u.otu.records.get k).acc, dir := (u.otu.records.get k).dir }
  | some w =>
    if (outputOf u k).rateLimit.toNat = 0 then
      { value := scaledSource u k, acc := (u.otu.records.get k).acc, dir := (u.otu.records.get k).dir }
    else
      ({ value := w, acc := (u.otu.records.get k).acc, dir := (u.otu.records.get k).dir } : Mover).toward
        (scaledSource u k) ((outputOf u k).rateLimit.toNat * u.rgi.advance) 1000

theorem limitedMover_eq : limitedMover u k = limitedFrom u k (u.otu.records.get k).last := rfl

end

/-! ## Members of a pair (R166, R167) -/

section
variable {u : State} {k m : Fin 64} {p : Fin 16}

/-- A passive pair member is written 0. -/
theorem rowMover_passive_pair (h : pairOf u.tables k = some (p, m)) : rowMover u k .passive = .rest (rawZero u k) :=
  (congrArg (fun v => Mover.rest (toRaw (outputOf u k) v)) (if_pos (congrArg Option.isSome h))).trans
    (congrArg Mover.rest (toRaw_zero _))

theorem someAnd_of_lt_getD {z : Nat} {o : Option Nat} (h : z < o.getD z) : someAnd (z < ·) o = true := by
  rcases o
  case none => exact absurd h (lt_irrefl z)
  case some w => exact decide_eq_true h

/-- A pair member that HOLD leaves active was active. -/
theorem rowMover_hold_pair (h : pairOf u.tables k = some (p, m)) (ha : rawZero u k < (rowMover u k .hold).value) :
    wasActive u k = true :=
  someAnd_of_lt_getD (ha.trans_eq (congrArg (fun v => (u.otu.records.get k).last.getD v)
    ((congrArg (toRaw (outputOf u k)) (if_pos (congrArg Option.isSome h))).trans (toRaw_zero _))))

/-- A value at most the raw zero, under a rate limit toward at most it, stays so. -/
theorem limitedFrom_le {o : Option Nat} (hs : scaledSource u k ≤ rawZero u k) (ho : someAnd (rawZero u k < ·) o = false) :
    (limitedFrom u k o).value ≤ rawZero u k := by
  rcases o
  case none => exact hs
  case some w =>
    exact iteInduction (motive := fun x : Mover => x.value ≤ rawZero u k) (fun _ => hs) fun _ =>
      Mover.toward_le_bound (Nat.not_lt.mp (of_decide_eq_false (p := rawZero u k < w) ho)) hs _ _

/-- A record that its rate limit leaves active was active or is demanded. -/
theorem rowMover_limited_active (ha : rawZero u k < (rowMover u k .limited).value) (hw : wasActive u k = false) :
    demanded u k = true := by
  by_contra hd
  have hsource : sourceOf u k = 0 := Nat.eq_zero_of_not_pos fun h => hd (decide_eq_true h)
  exact Nat.not_lt.mpr (limitedFrom_le ((congrArg (toRaw (outputOf u k)) hsource).trans (toRaw_zero _)).le hw) ha

/-- Whether the pair rule holds a record back, by its pair and its partner. -/
def waitsIn (u : State) (k : Fin 64) : Option (Fin 16 × Fin 64) → Bool
  | none => false
  | some (p, m) => demanded u k && !wasActive u k && (bothDemanded u k m || !zeroForInterval u p m)

theorem pairWaits_of {o : Option (Fin 16 × Fin 64)} (h : pairOf u.tables k = o) : pairWaits u k = waitsIn u k o :=
  congrArg (waitsIn u k) h

theorem let_go_of_not_waiting {d a b z : Bool} (h : ¬ (d && !a && (b || !z)) = true) (hd : d = true) (ha : a = false) :
    z = true := by
  revert d a b z; decide

/-- A member that a work makes active is written by its rate limit, and the pair rule has let it go. -/
theorem activated_is_let_go (h : pairOf u.tables k = some (p, m)) (ha : rawZero u k < writtenBy u k)
    (hw : wasActive u k = false) : zeroForInterval u p m = true := by
  have active {row : OutRow} (hrow : rowOf u k = row) : rawZero u k < (rowMover u k row).value :=
    ha.trans_eq (congrArg (fun r => (rowMover u k r).value) hrow)
  rcases upperRow_cases u k with hr | hr | hr
  · by_cases hwait : pairWaits u k = true
    · exact absurd (active ((rowOf_upper hr).trans (if_pos hwait))) (lt_irrefl _)
    · exact let_go_of_not_waiting ((iff_of_eq (congrArg (· = true) (pairWaits_of h))).not.mp hwait)
        (rowMover_limited_active (active ((rowOf_upper hr).trans (if_neg hwait))) hw) hw
  · exact absurd ((active (rowOf_upper hr)).trans_eq (congrArg Mover.value (rowMover_passive_pair h))) (lt_irrefl _)
  · exact absurd (rowMover_hold_pair h (active (rowOf_upper hr))) (Bool.eq_false_iff.mp hw)

/-- The pair rule writes the raw zero too, so a row below the upper ones that writes it does so with or without that rule. -/
theorem rowMover_getD_zero {c : Prop} [Decidable c] (o : Option OutRow)
    (h : (rowMover u m (o.getD .limited)).value = rawZero u m) :
    (rowMover u m (o.getD (if c then .pairZero else .limited))).value = rawZero u m := by
  rcases o
  case some row => exact h
  case none => exact iteInduction (motive := fun row => (rowMover u m row).value = rawZero u m) (fun _ => rfl) fun _ => h

/-- A partner that counts as written 0 for the interval is written 0 in this work. -/
theorem writtenBy_of_zeroForInterval (h : zeroForInterval u p m = true) : writtenBy u m = rawZero u m :=
  rowMover_getD_zero (upperRow u m) (beq_iff_eq.mp (Bool.and_elim_left h))

/-- Members of a pair of which one was inactive are not both written active (R167). -/
theorem members_not_both_activated (hk : pairOf u.tables k = some (p, m)) (hm : pairOf u.tables m = some (p, k))
    (hw : ¬ (wasActive u k = true ∧ wasActive u m = true)) :
    ¬ (rawZero u k < writtenBy u k ∧ rawZero u m < writtenBy u m) := by
  have rests {k m : Fin 64} (hk : pairOf u.tables k = some (p, m)) (ha : rawZero u k < writtenBy u k)
      (hw : ¬ wasActive u k = true) : ¬ rawZero u m < writtenBy u m :=
    (writtenBy_of_zeroForInterval (activated_is_let_go hk ha (Bool.eq_false_iff.mpr hw))) ▸ lt_irrefl _
  rintro ⟨hka, hma⟩
  exact (not_and_or.mp hw).elim (fun hw => rests hk hka hw hma) fun hw => rests hm hma hw hka

end

end Machine
end Sys2Proof
end

section
/-! SUPPORT. Marks counted, banks checked, device and pairs: an invariant of every step (R22, R25, R28, R31, R34, R167). -/

namespace Sys2Proof
namespace Machine

/-- What every step keeps of the banks, the device state and the pairs. -/
def BanksAndPairs (s : State) : Prop := MarksCounted s.tbs ∧ BanksChecked s.tbs ∧ DeviceSound s ∧ PairsApart s

section
variable {s : State}

theorem BanksAndPairs.marks (h : BanksAndPairs s) : MarksCounted s.tbs := h.1
theorem BanksAndPairs.banks (h : BanksAndPairs s) : BanksChecked s.tbs := h.2.1
theorem BanksAndPairs.device (h : BanksAndPairs s) : DeviceSound s := h.2.2.1
theorem BanksAndPairs.pairs (h : BanksAndPairs s) : PairsApart s := h.2.2.2

theorem DeviceSound.valid (h : DeviceSound s) : s.running = s.tbs.bankValid := h.1
theorem DeviceSound.mode (h : DeviceSound s) : s.otu.mode ≠ .normal → s.running = true := h.2.1
theorem DeviceSound.pending (h : DeviceSound s) : s.rgi.restartPending = true → s.running = true := h.2.2.1
theorem DeviceSound.unwritten (h : DeviceSound s) : s.running = false → ∀ k : Fin 64, (s.otu.records.get k).last = none := h.2.2.2

end

/-! ## What the property rests on -/

/-- Whether a record counts as active, by the bank and the records. -/
def activeIn (b : Bank) (r : Vector OutRecord 64) (k : Fin 64) : Bool :=
  someAnd ((b.outputs.get k).rawLow.toNat < ·) (r.get k).last

theorem wasActive_congr {s t : State} (htables : t.tables = s.tables) (hrecords : t.otu.records = s.otu.records) (k : Fin 64) :
    wasActive t k = wasActive s k := congrArg₂ (activeIn · · k) htables hrecords

theorem wasActive_of_same {s t : State} {k : Fin 64} (hrecord : t.otu.records.get k = s.otu.records.get k)
    (hzero : rawZero t k = rawZero s k) : wasActive t k = wasActive s k :=
  congrArg₂ (fun (r : OutRecord) z => someAnd (z < ·) r.last) hrecord hzero

/-- No in-use pair of a bank has both its members active. -/
def apartIn (b : Bank) (r : Vector OutRecord 64) : Prop :=
  ∀ p : Fin 16, yes (b.pairs.get p).inUse = true →
    ¬ (activeIn b r (indexIn 64 (by decide) (b.pairs.get p).memberA.toNat) = true ∧
      activeIn b r (indexIn 64 (by decide) (b.pairs.get p).memberB.toNat) = true)

/-- A state with the parts that the property rests on replaced. -/
def State.withParts (s : State) (t : Tbs) (r : Vector OutRecord 64) (m : OutputMode) (p : Bool) : State :=
  { s with tbs := t, otu := { s.otu with records := r, mode := m }, rgi := { s.rgi with restartPending := p } }

theorem BanksAndPairs.withParts {s : State} {x : Tbs} {r : Vector OutRecord 64} {m : OutputMode} {p : Bool} (h : BanksAndPairs s)
    (htbs : x = s.tbs) (hrecords : r = s.otu.records) (hmode : m = s.otu.mode) (hpending : p = s.rgi.restartPending) :
    BanksAndPairs (s.withParts x r m p) := by
  subst htbs hrecords hmode hpending
  exact h

theorem BanksAndPairs.of_same {s t : State} (h : BanksAndPairs s) (htbs : t.tbs = s.tbs)
    (hrecords : t.otu.records = s.otu.records) (hmode : t.otu.mode = s.otu.mode)
    (hpending : t.rgi.restartPending = s.rgi.restartPending) : BanksAndPairs t :=
  h.withParts htbs hrecords hmode hpending

/-- What the property rests on but for the pending restart. -/
def State.core (s : State) : Tbs × Vector OutRecord 64 × OutputMode := (s.tbs, s.otu.records, s.otu.mode)

/-- `t` differs from `s` in nothing that the banks, the pairs and the frame's books rest on, but for events raised. -/
def OnlyRaised (s t : State) : Prop := t.core = s.core ∧ ∃ es : List Event, t.rgi = es.foldl enqueue s.rgi

theorem OnlyRaised.tbs {s t : State} (h : OnlyRaised s t) : t.tbs = s.tbs := congrArg Prod.fst h.1

theorem OnlyRaised.of_same {s t : State} (hcore : t.core = s.core) (hrgi : t.rgi = s.rgi) : OnlyRaised s t := ⟨hcore, [], hrgi⟩

theorem OnlyRaised.refl (s : State) : OnlyRaised s s := .of_same rfl rfl

theorem OnlyRaised.ite {α : Type} {s : State} {c : Prop} [Decidable c] {x y : State × α} (hx : OnlyRaised s x.1)
    (hy : OnlyRaised s y.1) : OnlyRaised s (if c then x else y).1 :=
  iteInduction (motive := fun z : State × α => OnlyRaised s z.1) (fun _ => hx) fun _ => hy

theorem OnlyRaised.dite {α : Type} {s : State} {c : Prop} [Decidable c] {x : c → State × α} {y : ¬ c → State × α}
    (hx : ∀ h, OnlyRaised s (x h).1) (hy : ∀ h, OnlyRaised s (y h).1) : OnlyRaised s (if h : c then x h else y h).1 :=
  if h : c then (congrArg (fun z : State × α => OnlyRaised s z.1) (dif_pos h)).mpr (hx h)
  else (congrArg (fun z : State × α => OnlyRaised s z.1) (dif_neg h)).mpr (hy h)

theorem BanksAndPairs.of_raised {s t : State} (h : BanksAndPairs s) (ht : OnlyRaised s t) : BanksAndPairs t :=
  h.of_same ht.tbs (congrArg (·.2.1) ht.1) (congrArg (·.2.2) ht.1)
    (ht.2.elim fun es hes => (congrArg Rgi.restartPending hes).trans (foldl_enqueue_restartPending es s.rgi))

theorem BanksAndPairs.ite {α : Type} {c : Prop} [Decidable c] {x y : State × α} (hx : c → BanksAndPairs x.1)
    (hy : ¬ c → BanksAndPairs y.1) : BanksAndPairs (if c then x else y).1 :=
  iteInduction (motive := fun z : State × α => BanksAndPairs z.1) hx hy

/-- A change of the table store that leaves the active bank and the device as they are. -/
theorem BanksAndPairs.withTbs {s : State} (h : BanksAndPairs s) {x : Tbs} (hactive : x.activeBank = s.tbs.activeBank)
    (hdevice : x.device = s.tbs.device) (hvalid : x.bankValid = s.tbs.bankValid) (hmarks : MarksCounted x)
    (hshadow : x.shadow = .committed ∨ x.shadow = .swapPending → firstOffender x.shadowBank = none) :
    BanksAndPairs (s.withTbs x) :=
  have hrun : (s.withTbs x).running = s.running := congrArg (· == .run) hdevice
  ⟨hmarks, ⟨fun hv => (congrArg firstOffender hactive).trans (h.banks.1 (hvalid.symm.trans hv)), hshadow⟩,
    ⟨hrun.trans (h.device.valid.trans hvalid.symm), fun hm => hrun.trans (h.device.mode hm),
      fun hp => hrun.trans (h.device.pending hp), fun hf => h.device.unwritten (hrun.symm.trans hf)⟩,
    (congrArg (apartIn · s.otu.records) hactive).mpr h.pairs⟩

/-- Where nothing is written, no pair has an active member. -/
theorem pairsApart_of_unwritten {s : State} (h : ∀ k : Fin 64, (s.otu.records.get k).last = none) : PairsApart s :=
  fun _ _ hboth => Bool.false_ne_true ((wasActive_of_unwritten (h _)).symm.trans hboth.1)

/-! ## The table store (R22 to R25, R30, R32) -/

theorem count_replicate_false (n : Nat) : (Vector.replicate n false).toList.count true = 0 := by
  simp [List.count_replicate]

theorem marksCounted_clearMarks (t : Tbs) : MarksCounted t.clearMarks := (count_replicate_false 488).symm

/-- A mark newly set is counted. -/
theorem count_putAt_true {n : Nat} (v : Vector Bool n) {i : Nat} (hi : i < n) (h : v[i]?.getD false = false) :
    Vector.count true (putAt v i true) = Vector.count true v + 1 :=
  (congrArg (Vector.count true) (dif_pos hi)).trans <| (Vector.count_set hi).trans <|
    congrArg (fun b : Bool => Vector.count true v - (if b == true then 1 else 0) + if true == true then 1 else 0)
      ((congrArg (·.getD false) (getElem?_pos v i hi)).symm.trans h)

theorem marksCounted_withShadow {t : Tbs} (h : MarksCounted t) (b : Bank) : MarksCounted (t.withShadow b) :=
  (t.withShadow_written b).trans (h.trans (congrArg (·.toList.count true) (t.withShadow_marks b).symm))

theorem marksCounted_setMark {t : Tbs} (h : MarksCounted t) {a i : Nat} (ha : a < 10) (hi : i < entryCount a) :
    MarksCounted (t.setMark a i) := by
  rcases hm : t.mark a i
  case true => rwa [Tbs.setMark_of_marked hm]
  case false =>
    rw [Tbs.setMark_of_unmarked hm]
    exact (congrArg (· + 1) h).trans (Vector.count_toList.trans ((count_putAt_true t.marks (markPlace_lt ha hi) hm).trans
      (congrArg (· + 1) Vector.count_toList.symm))).symm

theorem not_offered {t : Tbs} {x : ShadowState} {P : Prop} (h : t.shadow = x)
    (hx : (x = .committed ∨ x = .swapPending : Bool) = false) : t.shadow = .committed ∨ t.shadow = .swapPending → P := by
  subst h
  exact fun hc => absurd hc (of_decide_eq_false hx)

theorem takeTableOpen_keeps {s : State} (h : BanksAndPairs s) : BanksAndPairs (takeTableOpen s).1 := by
  exact .ite (fun _ => h) fun _ => h.withTbs s.tbs.opened_activeBank s.tbs.opened_device s.tbs.opened_bankValid
    (marksCounted_clearMarks (s.tbs.withShadow s.tbs.activeBank)) (not_offered rfl rfl)

theorem writeBy_keeps {s : State} (h : BanksAndPairs s) (table index : Byte) (entry : List Byte) {x : ShadowState}
    (hx : s.tbs.shadow = x) : BanksAndPairs (writeBy table index entry s x).1 := by
  rcases x
  case closed => exact h
  case committed => exact h
  case swapPending => exact h
  case opened =>
    exact .ite (fun _ => h) fun ht => .ite (fun _ => h) fun hi => .ite (fun _ => h) fun _ =>
      h.withTbs (s.tbs.stored_activeBank _ _ entry) (s.tbs.stored_device _ _ entry) (s.tbs.stored_bankValid _ _ entry)
        (marksCounted_setMark (marksCounted_withShadow h.marks _) (Nat.not_le.mp ht) (Nat.not_le.mp hi))
        (not_offered ((s.tbs.stored_shadow _ _ entry).trans hx) rfl)

theorem takeTableCommit_keeps {s : State} (h : BanksAndPairs s) (expected : Half) :
    BanksAndPairs (takeTableCommit expected s).1 := by
  refine .ite (fun _ => h) fun _ => .ite (fun _ => h) fun _ => ?_
  rcases ho : firstOffender s.tbs.shadowBank
  case some p => exact h
  case none => exact h.withTbs rfl rfl rfl h.1 fun _ => ho

/-- A store whose shadow is closed and whose marks are cleared. -/
theorem BanksAndPairs.closed {s : State} (h : BanksAndPairs s) :
    BanksAndPairs (s.withTbs { s.tbs.clearMarks with shadow := .closed }) :=
  h.withTbs rfl rfl rfl (marksCounted_clearMarks s.tbs) (not_offered rfl rfl)

theorem abandonBy_keeps {s : State} (h : BanksAndPairs s) (x : ShadowState) : BanksAndPairs (abandonBy s x).1 := by
  rcases x
  case closed => exact h
  case swapPending => exact h
  case opened => exact h.closed
  case committed => exact h.closed

theorem takeBankSwap_keeps {s : State} (h : BanksAndPairs s) : BanksAndPairs (takeBankSwap s).1 := by
  exact .ite (fun hs => h.withTbs rfl rfl rfl h.1 fun _ => h.banks.2 (.inl hs)) fun _ => h

/-! ## The telegrams of the other blocks -/

theorem takePointForce_onlyRaised (p : Half) (v : Word) (s : State) : OnlyRaised s (takePointForce p v s).1 :=
  .dite (fun _ => .ite (.refl s) (.ite (.refl s) (.of_same rfl rfl))) fun _ => .refl s
theorem takePointRelease_onlyRaised (p : Half) (s : State) : OnlyRaised s (takePointRelease p s).1 :=
  .dite (fun _ => .ite (.refl s) (.of_same rfl rfl)) fun _ => .refl s
theorem takeLoopManual_onlyRaised (a : Byte) (v : Half) (s : State) : OnlyRaised s (takeLoopManual a v s).1 :=
  .dite (fun _ => .ite (.refl s) (.ite (.refl s) (.ite (.refl s) (.of_same rfl rfl)))) fun _ => .refl s
theorem takeLoopAuto_onlyRaised (a : Byte) (s : State) : OnlyRaised s (takeLoopAuto a s).1 :=
  .dite (fun _ => .ite (.refl s) (.of_same rfl rfl)) fun _ => .refl s
theorem takeDispatchOverride_onlyRaised (t : Word) (r : Half) (s : State) : OnlyRaised s (takeDispatchOverride t r s).1 :=
  .ite (.refl s) (.ite (.refl s) (.of_same rfl rfl))
theorem takeDispatchClear_onlyRaised (s : State) : OnlyRaised s (takeDispatchClear s).1 :=
  .ite (.refl s) (.of_same rfl rfl)

/-! The bodies of LINE_COMMAND (R90 to R94): a move and an ended emission stop raise one event each. -/

theorem moveLine_onlyRaised (s : State) (l : Line) (st : LineState) (c : LineCause) : OnlyRaised s (moveLine s l st c) :=
  ⟨rfl, [_], rfl⟩

theorem resetEmissionStop_onlyRaised (l : Line) (s : State) : OnlyRaised s (resetEmissionStop l s) :=
  iteInduction (motive := OnlyRaised s) (fun _ => ⟨rfl, [_], rfl⟩) fun _ => .refl s

theorem lineReset_onlyRaised (l : Line) (s : State) : OnlyRaised s (lineReset l s).1 := by
  unfold lineReset
  rcases (s.lsv.get l).state
  case tripped => exact .ite (.refl s) (moveLine_onlyRaised s l _ _)
  case off => exact resetEmissionStop_onlyRaised l s
  case start => exact .refl s
  case waste => exact .refl s
  case inhibit => exact .refl s
  case burnout => exact .refl s

theorem takeResetFeederOf_onlyRaised (l : Line) (s : State) : OnlyRaised s (takeResetFeederOf l s).1 :=
  .ite (.refl s) (.ite (.refl s) (.of_same rfl rfl))

theorem onLine_onlyRaised (line : Byte) {body : Line → State → LineAnswer} {s : State}
    (h : ∀ l, OnlyRaised s (body l s).1) : OnlyRaised s (onLine line body s).1 := by
  unfold onLine
  rcases lineOf line
  case none => exact .refl s
  case some l => exact h l

theorem inRun_onlyRaised (line : Byte) {body : Line → State → LineAnswer} {s : State}
    (h : ∀ l, OnlyRaised s (body l s).1) : OnlyRaised s (onLine line (inRun body) s).1 :=
  onLine_onlyRaised line fun l => .ite (h l) (.refl s)

/-- LINE_COMMAND by the number of its kind. -/
def lineCommandOf (line : Byte) (s : State) : Nat → State × Answer
  | 0 => takeLineStart line s
  | 1 => takeLineFeedOn line s
  | 2 => takeLineFeedOff line s
  | 3 => takeLineStop line s
  | 4 => takeLineReset line s
  | 5 => takeResetFeeder line s
  | _ => onLine line (fun _ s => (s, .refusedRange, [])) s

theorem lineCommandOf_onlyRaised (line : Byte) (s : State) : ∀ n, OnlyRaised s (lineCommandOf line s n).1
  | 0 => inRun_onlyRaised (body := lineStart) line fun l => .ite (moveLine_onlyRaised s l _ _) (.refl s)
  | 1 => inRun_onlyRaised (body := lineFeedOn) line fun l =>
      .ite (.refl s) (.ite (.refl s) (.ite (.refl s) (moveLine_onlyRaised s l _ _)))
  | 2 => inRun_onlyRaised (body := lineFeedOff) line fun l => .ite (moveLine_onlyRaised s l _ _) (.refl s)
  | 3 => inRun_onlyRaised (body := lineStop) line fun l => .ite (moveLine_onlyRaised s l _ _) (.refl s)
  | 4 => inRun_onlyRaised line fun l => lineReset_onlyRaised l s
  | 5 => onLine_onlyRaised line fun l => takeResetFeederOf_onlyRaised l s
  | _ + 6 => onLine_onlyRaised line fun _ => .refl s

theorem takeLineCommand_onlyRaised (line kind : Byte) (s : State) : OnlyRaised s (takeLineCommand line kind s).1 :=
  lineCommandOf_onlyRaised line s kind.toNat

/-! TRIP_RESET (R174): latches and the group are no part of it, and a release raises one event. -/

theorem clearLatches_records (g : Fin 8) (o : Otu) : (clearLatches g o).records = o.records := by rw [clearLatches]
theorem clearLatches_mode (g : Fin 8) (o : Otu) : (clearLatches g o).mode = o.mode := by rw [clearLatches]

theorem OnlyRaised.trans {s t u : State} (ht : OnlyRaised s t) (hu : OnlyRaised t u) : OnlyRaised s u :=
  ⟨hu.1.trans ht.1, ht.2.elim fun es hes => hu.2.elim fun fs hfs => ⟨es ++ fs,
    hfs.trans ((congrArg (List.foldl enqueue · fs) hes).trans List.foldl_append.symm)⟩⟩

theorem OnlyRaised.withOtu {s : State} {x : Otu} (hrecords : x.records = s.otu.records) (hmode : x.mode = s.otu.mode) :
    OnlyRaised s (s.withOtu x) := .of_same (congrArg₂ (fun r m => (s.tbs, r, m)) hrecords hmode) rfl

theorem resetGroup_onlyRaised (g : Fin 8) (s : State) : OnlyRaised s (resetGroup g s) := by
  have hcleared := OnlyRaised.withOtu (clearLatches_records g s.otu) (clearLatches_mode g s.otu)
  have released (t : State) : OnlyRaised t (releaseByReset g t) := ⟨rfl, [_], rfl⟩
  have grouped (t : State) (x : TripGroup) : OnlyRaised t (t.withGroup g x) := ⟨rfl, [], rfl⟩
  unfold resetGroup
  rcases releaseModeOf (s.tables.groups.get g)
  case latched => exact hcleared.trans (released _)
  case auto => exact hcleared.trans (released _)
  case autoDelayed =>
    exact iteInduction (motive := OnlyRaised s) (fun _ => hcleared.trans (released _)) fun _ =>
      hcleared.trans (grouped _ _)

theorem takeTripReset_onlyRaised (group : Byte) (s : State) : OnlyRaised s (takeTripReset group s).1 :=
  .dite (fun _ => .ite (.refl s) (.ite (.refl s) (.ite (.refl s) (resetGroup_onlyRaised _ s)))) fun _ => .refl s

/-- An OUTPUT_MODE other than NORMAL is taken in RUN alone (R163). -/
theorem takeOutputMode_keeps {s : State} (h : BanksAndPairs s) (mode : Byte) : BanksAndPairs (takeOutputMode mode s).1 := by
  unfold takeOutputMode
  rcases outputModeOf mode
  case none => exact h
  case some m =>
    exact .ite (fun _ => h) fun hrun =>
      ⟨h.marks, h.banks, ⟨h.device.valid, fun _ => Classical.not_not.mp hrun, h.device.pending, h.device.unwritten⟩, h.pairs⟩

/-- A RESTART is taken in PASSIVE alone, and so in RUN (R187). -/
theorem takeRestart_keeps {s : State} (h : BanksAndPairs s) : BanksAndPairs (takeRestart s).1 := by
  exact .ite (fun hmode => ⟨h.marks, h.banks, ⟨h.device.valid, h.device.mode,
    fun _ => h.device.mode ((congrArg (· ≠ OutputMode.normal) hmode).mpr (by decide)), h.device.unwritten⟩, h.pairs⟩) fun _ => h

/-- Every telegram keeps the property: those of the store, the output mode and the restart by their own rules, the others change
none of what it rests on. -/
theorem takeRequest_keeps {s : State} (h : BanksAndPairs s) (r : Request) : BanksAndPairs (takeRequest r s).1 := by
  rcases r
  case tableOpen => exact takeTableOpen_keeps h
  case tableWrite table index entry => exact writeBy_keeps h table index entry rfl
  case tableRead bank table index => exact (takeTableRead_state bank table index s).symm ▸ h
  case tableCommit expected => exact takeTableCommit_keeps h expected
  case tableAbandon => exact abandonBy_keeps h s.tbs.shadow
  case bankSwap => exact takeBankSwap_keeps h
  case pointRead first last => exact (takePointRead_state first last s).symm ▸ h
  case pointForce point value => exact h.of_raised (takePointForce_onlyRaised point value s)
  case pointRelease point => exact h.of_raised (takePointRelease_onlyRaised point s)
  case loopManual loop value => exact h.of_raised (takeLoopManual_onlyRaised loop value s)
  case loopAuto loop => exact h.of_raised (takeLoopAuto_onlyRaised loop s)
  case lineCommand line kind => exact h.of_raised (takeLineCommand_onlyRaised line kind s)
  case dispatchOverride target ramp => exact h.of_raised (takeDispatchOverride_onlyRaised target ramp s)
  case dispatchClear => exact h.of_raised (takeDispatchClear_onlyRaised s)
  case outputMode mode => exact takeOutputMode_keeps h mode
  case tripReset group => exact h.of_raised (takeTripReset_onlyRaised group s)
  case recordRead line day index => exact (takeRecordRead_state line day index s).symm ▸ h
  case dayRead line day => exact (takeDayRead_state line day s).symm ▸ h
  case ringInfo line => exact (takeRingInfo_state line s).symm ▸ h
  case statusRead => exact h
  case restart => exact takeRestart_keeps h

/-! ## Pairs of a checked bank (R28, R166) -/

section
variable {b : Bank} (h : firstOffender b = none)
include h

theorem checked_pair (p : Fin 16) (hu : yes (b.pairs.get p).inUse = true) : PairJoined b p :=
  (pairBroken_eq_false b).mp (all_below_iff.mp ((firstOffender_eq_none b).mp h 3 (by decide))) p hu

variable {k : Fin 64}

theorem checked_output : ((b.outputs.get k).source ≠ 0 → RecordChecks b k (· < k)) ∧
    ((b.outputs.get k).source = 0 → (b.outputs.get k).pairId = 0) :=
  (outputBroken_eq_false b k).mp (all_below_iff.mp ((firstOffender_eq_none b).mp h 2 (by decide)) k)

/-- A record of a checked bank that carries a pair id has a source. -/
theorem checked_source (hid : (b.outputs.get k).pairId ≠ 0) : (b.outputs.get k).source ≠ 0 := fun h0 =>
  hid ((checked_output h).2 h0)

theorem checked_pairOf (hid : (b.outputs.get k).pairId ≠ 0) :
    ∃ p m, pairOf b k = some (p, m) ∧ p.val + 1 = (b.outputs.get k).pairId.toNat :=
  ((checked_output h).1 (checked_source h hid)).pair hid

end

theorem indexIn_of_eq {x : Nat} {i : Fin 64} (hx : x = i.val) : indexIn 64 (by decide) x = i := hx ▸ indexIn_val _ i

theorem pairId_ne_zero {b : Bank} {k : Fin 64} {p : Fin 16} (h : (b.outputs.get k).pairId.toNat = p.val + 1) :
    (b.outputs.get k).pairId ≠ 0 := fun h0 => Nat.succ_ne_zero p.val (h.symm.trans (congrArg BitVec.toNat h0))

section
variable {s : State} (h : firstOffender s.tables = none) {p : Fin 16}
include h

theorem member_hasSource {k m : Fin 64} (hk : pairOf s.tables k = some (p, m)) : hasSource (outputOf s k) = true :=
  bne_iff_ne.mpr (checked_source h (pairId_ne_zero (pairOf_pairId hk)))

/-- Over a checked bank the pairs are apart where no two partners are both active. -/
theorem pairsApart_of_partners
    (hp : ∀ p m n, m ≠ n → pairOf s.tables m = some (p, n) → pairOf s.tables n = some (p, m) →
      wasActive s m = true → wasActive s n = true → False) : PairsApart s := by
  intro p hu hboth
  obtain ⟨m, n, hj⟩ := checked_pair h p hu
  exact hp p m n hj.ne hj.partner hj.partner' ((congrArg (wasActive s) (indexIn_of_eq hj.first)).symm.trans hboth.1)
    ((congrArg (wasActive s) (indexIn_of_eq hj.second)).symm.trans hboth.2)

/-- A record of a checked bank that carries a pair's id is a member of that pair, which is in use. -/
theorem member_of_pairId {k : Fin 64} (hk : (s.tables.outputs.get k).pairId.toNat = p.val + 1) :
    yes (s.tables.pairs.get p).inUse = true ∧ (memberA s p = k ∨ memberB s p = k) := by
  obtain ⟨q, m, hq, hqk⟩ := checked_pairOf h (pairId_ne_zero hk)
  obtain rfl : q = p := Fin.ext (Nat.succ.inj (hqk.trans hk))
  exact (names_of_pairOf hq).imp_right (Or.imp indexIn_of_eq indexIn_of_eq)

/-- Of two records that carry a pair's id one is not active. -/
theorem PairsApart.not_both (hs : PairsApart s) {m n : Fin 64} (hmn : m ≠ n) (ha : wasActive s m = true) (hb : wasActive s n = true)
    (hm : (s.tables.outputs.get m).pairId.toNat = p.val + 1) (hn : (s.tables.outputs.get n).pairId.toNat = p.val + 1) : False := by
  obtain ⟨hu, hma⟩ := member_of_pairId h hm
  obtain ⟨-, hnb⟩ := member_of_pairId h hn
  have apart {x y : Fin 64} (hx : memberA s p = x) (hy : memberB s p = y) (hax : wasActive s x = true)
      (hay : wasActive s y = true) : False :=
    hs p hu ⟨(congrArg (wasActive s) hx).trans hax, (congrArg (wasActive s) hy).trans hay⟩
  exact hma.elim (fun am => hnb.elim (fun an => hmn (am.symm.trans an)) (apart am · ha hb))
    fun bm => hnb.elim (apart · bm hb ha) fun bn => hmn (bm.symm.trans bn)

end

theorem BanksAndPairs.checked {s : State} (h : BanksAndPairs s) (hr : s.running = true) : firstOffender s.tables = none :=
  h.banks.1 (h.device.valid ▸ hr)

/-! ## Power-on, restart and swap (R187, R31) -/

theorem powerOn_keeps (pins : BitVec 7) (s : State) : BanksAndPairs (powerOnState pins s) := by
  have hunwritten (k : Fin 64) : ((powerOnState pins s).otu.records.get k).last = none :=
    congrArg OutRecord.last (reset_record k).1
  exact ⟨marksCounted_clearMarks tbsReset, ⟨fun h => (Bool.false_ne_true h).elim, not_offered rfl rfl⟩,
    ⟨rfl, fun h => absurd rfl h, fun h => (Bool.false_ne_true h).elim, fun _ => hunwritten⟩, pairsApart_of_unwritten hunwritten⟩

theorem restart_keeps {s : State} (h : BanksAndPairs s) (hp : s.rgi.restartPending = true) : BanksAndPairs (restartPart s) := by
  have hunwritten (k : Fin 64) : ((restartPart s).otu.records.get k).last = none :=
    congrArg OutRecord.last (reset_record k).1
  exact ⟨marksCounted_clearMarks s.tbs, ⟨h.banks.1, not_offered rfl rfl⟩,
    ⟨(h.device.pending hp).symm.trans h.device.valid, fun h => absurd rfl h, fun h => (Bool.false_ne_true h).elim,
      fun _ => hunwritten⟩, pairsApart_of_unwritten hunwritten⟩

theorem swapBanks_tables (s : State) : (swapBanks s).tables = s.tbs.shadowBank := s.tbs.swap_activeBank

theorem swapBanks_record (s : State) (k : Fin 64) :
    (swapBanks s).otu.records.get k =
      if outputRemade (s.tables.outputs.get k) (s.tbs.shadowBank.outputs.get k) then
        { last := none, acc := 0, dir := .none, zeroSince := some s.rgi.runTime }
      else s.otu.records.get k := by
  rw [← s.tbs.swap_activeBank]
  exact otuSwap_record _ _ _ _ k

theorem outputRemade_same {old new : OutputEntry} (h : ¬ outputRemade old new = true) :
    old.rawLow = new.rawLow ∧ old.pairId = new.pairId :=
  have hsame := mt (outputRemade_iff old new).mpr h
  ⟨not_not.mp fun h => hsame (.inr (.inr (.inl h))), not_not.mp fun h => hsame (.inr (.inr (.inr (.inr (.inr h)))))⟩

/-- A record that is active after a swap was active, under an entry with the same pair id (R175). -/
theorem active_before_swap {s : State} {k : Fin 64} (h : wasActive (swapBanks s) k = true) :
    wasActive s k = true ∧ (s.tables.outputs.get k).pairId = (s.tbs.shadowBank.outputs.get k).pairId := by
  have hrecord := swapBanks_record s k
  by_cases hrem : outputRemade (s.tables.outputs.get k) (s.tbs.shadowBank.outputs.get k) = true
  · exact (Bool.false_ne_true ((wasActive_of_unwritten (congrArg OutRecord.last (hrecord.trans (if_pos hrem)))).symm.trans h)).elim
  · obtain ⟨hlow, hid⟩ := outputRemade_same hrem
    exact ⟨(wasActive_of_same (hrecord.trans (if_neg hrem))
      ((congrArg (fun b : Bank => (b.outputs.get k).rawLow.toNat) (swapBanks_tables s)).trans
        (congrArg BitVec.toNat hlow.symm))).symm.trans h, hid⟩

/-- No pair of the new bank has both members active after a swap: they were members of the same pair before it. -/
theorem swap_pairsApart {s : State} (h : BanksAndPairs s) (hs : s.tbs.shadow = .swapPending) : PairsApart (swapBanks s) := by
  rcases hr : s.running
  case false =>
    refine pairsApart_of_unwritten fun k => ?_
    rw [swapBanks_record]
    exact iteInduction (motive := fun x : OutRecord => x.last = none) (fun _ => rfl) fun _ => h.device.unwritten hr k
  case true =>
    have hnew : firstOffender (swapBanks s).tables = none :=
      (congrArg firstOffender (swapBanks_tables s)).trans (h.banks.2 (.inr hs))
    have carried {p : Fin 16} {k x : Fin 64} (hk : pairOf (swapBanks s).tables k = some (p, x))
        (ha : wasActive (swapBanks s) k = true) : (s.tables.outputs.get k).pairId.toNat = p.val + 1 := by
      rw [(active_before_swap ha).2, ← swapBanks_tables]
      exact pairOf_pairId hk
    exact pairsApart_of_partners hnew fun p m n hne hm hn ha hb => h.pairs.not_both (h.checked hr) hne (active_before_swap ha).1
      (active_before_swap hb).1 (carried hm ha) (carried hn hb)

theorem swap_keeps {s : State} (h : BanksAndPairs s) (hs : s.tbs.shadow = .swapPending) : BanksAndPairs (swapBanks s) :=
  ⟨marksCounted_clearMarks s.tbs, ⟨fun _ => (congrArg firstOffender s.tbs.swap_activeBank).trans (h.banks.2 (.inr hs)),
    not_offered rfl rfl⟩, ⟨rfl, fun _ => rfl, fun _ => rfl, fun hf => (Bool.false_ne_true hf.symm).elim⟩, swap_pairsApart h hs⟩

/-! ## The work of the OTU and a released pair member (R162 to R167) -/

theorem evaluateTrips_tbs (s : State) : (evaluateTrips s).tbs = s.tbs := by simp only [evaluateTrips, State.withOtu_tbs]
theorem evaluateTrips_tables (s : State) : (evaluateTrips s).tables = s.tables := by
  rw [State.tables_eq, State.tables_eq, evaluateTrips_tbs]
theorem evaluateTrips_rawZero (s : State) (k : Fin 64) : rawZero (evaluateTrips s) k = rawZero s k :=
  congrArg (fun b : Bank => (b.outputs.get k).rawLow.toNat) (evaluateTrips_tables s)
theorem evaluateTrips_records (s : State) : (evaluateTrips s).otu.records = s.otu.records := by
  simp only [evaluateTrips, State.withOtu_otu]
theorem evaluateTrips_wasActive (s : State) (k : Fin 64) : wasActive (evaluateTrips s) k = wasActive s k :=
  wasActive_congr (evaluateTrips_tables s) (evaluateTrips_records s) k

theorem otuWork_tables (s : State) : (otuWork s).tables = s.tables := congrArg Tbs.activeBank (otuWork_tbs s)

theorem otuWork_record {s : State} (h : s.running = true) (k : Fin 64) :
    (otuWork s).otu.records.get k = (recordAfter (evaluateTrips s) k).1 := by
  rw [otuWork_otu h, otuAfter_record]

/-- A record with a source is active after a work in RUN exactly when the row that decides it writes more than 0. -/
theorem active_after_work {s : State} (hr : s.running = true) {k : Fin 64} (hs : hasSource (outputOf s k) = true)
    (h : wasActive (otuWork s) k = true) : rawZero s k < writtenBy (evaluateTrips s) k :=
  have hsource := (congrArg (fun b : Bank => hasSource (b.outputs.get k)) (evaluateTrips_tables s)).trans hs
  have hlast : ((otuWork s).otu.records.get k).last = some (writtenBy (evaluateTrips s) k) :=
    (congrArg OutRecord.last (otuWork_record hr k)).trans
      (congrArg (fun r : OutRecord × OutPub => r.1.last) (recordAfter_source hsource))
  have hzero : rawZero (otuWork s) k = rawZero s k := congrArg (fun b : Bank => (b.outputs.get k).rawLow.toNat) (otuWork_tables s)
  hzero.symm.trans_lt (of_decide_eq_true ((wasActive_of hlast).symm.trans h))

/-- Of two partners of a checked bank a work leaves one not active. -/
theorem otuWork_not_both {s : State} (h : BanksAndPairs s) (hr : s.running = true) {p : Fin 16} {m n : Fin 64} (hne : m ≠ n)
    (hm : pairOf s.tables m = some (p, n)) (hn : pairOf s.tables n = some (p, m)) (ha : wasActive (otuWork s) m = true)
    (hb : wasActive (otuWork s) n = true) : False := by
  have hc := h.checked hr
  have hwas : ¬ (wasActive (evaluateTrips s) m = true ∧ wasActive (evaluateTrips s) n = true) := fun hboth =>
    h.pairs.not_both hc hne ((evaluateTrips_wasActive s m).symm.trans hboth.1) ((evaluateTrips_wasActive s n).symm.trans hboth.2)
      (pairOf_pairId hm) (pairOf_pairId hn)
  exact members_not_both_activated ((evaluateTrips_tables s).symm ▸ hm) ((evaluateTrips_tables s).symm ▸ hn) hwas
    ⟨(evaluateTrips_rawZero s m).trans_lt (active_after_work hr (member_hasSource hc hm) ha),
      (evaluateTrips_rawZero s n).trans_lt (active_after_work hr (member_hasSource hc hn) hb)⟩

theorem otuWork_running (s : State) : (otuWork s).running = s.running := congrArg (fun t : Tbs => t.device == .run) (otuWork_tbs s)

theorem otuWork_keeps {s : State} (h : BanksAndPairs s) : BanksAndPairs (otuWork s) := by
  rcases hr : s.running
  case false =>
    exact (congrArg BanksAndPairs (otuWork_config hr)).mpr h
  case true =>
    have hrun := (otuWork_running s).trans hr
    have hvalid : (otuWork s).running = (otuWork s).tbs.bankValid := by
      rw [otuWork_running, otuWork_tbs]
      exact h.device.valid
    refine ⟨(otuWork_tbs s).symm ▸ h.marks, (otuWork_tbs s).symm ▸ h.banks,
      ⟨hvalid, fun _ => hrun, fun _ => hrun, fun hf => (Bool.false_ne_true (hf.symm.trans hrun)).elim⟩,
      pairsApart_of_partners ((congrArg firstOffender (otuWork_tables s)).trans (h.checked hr)) fun p m n hne hm hn =>
        otuWork_not_both h hr hne (otuWork_tables s ▸ hm) (otuWork_tables s ▸ hn)⟩

theorem of_intervalElapsed {s : State} {k : Fin 64} (h : intervalElapsed s k = true) :
    s.running = true ∧ partnerRests s k = true :=
  have hrest := Bool.and_elim_left (Bool.and_elim_left h)
  ⟨Bool.and_elim_left (Bool.and_elim_left (Bool.and_elim_left (Bool.and_elim_left (Bool.and_elim_left
    (Bool.and_elim_left hrest))))), Bool.and_elim_right hrest⟩

/-- The partner of a record that rests is not active. -/
theorem of_partnerRests {s : State} {k m : Fin 64} {p : Fin 16} (h : partnerRests s k = true)
    (hk : pairOf s.tables k = some (p, m)) : wasActive s m = false := by
  rw [partnerRests, hk] at h
  exact (Bool.not_eq_true' _).mp h

theorem writeRecord_other {s : State} {j k : Fin 64} (h : j ≠ k) : wasActive (writeRecord s k) j = wasActive s j :=
  wasActive_of_same (get_set_other _ h _) rfl

/-- A waiting member is let go while its partner rests, which stays so. -/
theorem writeRecord_keeps {s : State} (h : BanksAndPairs s) {k : Fin 64} (hk : intervalElapsed s k = true) :
    BanksAndPairs (writeRecord s k) := by
  obtain ⟨hr, hrest⟩ := of_intervalElapsed hk
  have hc := h.checked hr
  have rests {p : Fin 16} {j : Fin 64} (hne : j ≠ k) (hp : pairOf s.tables k = some (p, j)) :
      ¬ wasActive (writeRecord s k) j = true :=
    Bool.eq_false_iff.mp ((writeRecord_other hne).trans (of_partnerRests hrest hp))
  have hapart : PairsApart (writeRecord s k) := pairsApart_of_partners hc fun p m n hne hm hn ha hb =>
    if hmk : m = k then rests (hmk ▸ hne.symm) (hmk ▸ hm) hb
    else if hnk : n = k then rests hmk (hnk ▸ hn) ha
    else h.pairs.not_both hc hne ((writeRecord_other hmk).symm.trans ha) ((writeRecord_other hnk).symm.trans hb) (pairOf_pairId hm)
      (pairOf_pairId hn)
  exact ⟨h.marks, h.banks, ⟨h.device.valid, h.device.mode, h.device.pending,
    fun hf => (Bool.false_ne_true (hf.symm.trans hr)).elim⟩, hapart⟩

/-! ## Every operation, and so every step -/

theorem BanksAndPairs.raiseAll {s : State} (h : BanksAndPairs s) (es : List Event) : BanksAndPairs (s.raiseAll es) :=
  h.of_raised ⟨rfl, es, rfl⟩

theorem BanksAndPairs.withSeqResult {s : State} (h : BanksAndPairs s) (l : Line) (r : SeqResult) :
    BanksAndPairs (s.withSeqResult l r) :=
  BanksAndPairs.raiseAll (s := s.withGsq l (publishSeq r.1)) h r.2

/-- The queue with its next event taken differs in its two parts alone. -/
theorem nextEvent_frame {r : Rgi} {p : Event × Rgi} (h : nextEvent r = some p) :
    p.2 = { r with high := p.2.high, normal := p.2.normal } := by
  unfold nextEvent at h
  revert h
  rcases r.high
  case cons e rest => exact fun h => Option.some.inj h ▸ rfl
  case nil =>
    rcases r.normal
    case cons e rest => exact fun h => Option.some.inj h ▸ rfl
    case nil => exact fun h => (Option.some_ne_none _ h.symm).elim

theorem blockWork_keeps {s : State} (h : BanksAndPairs s) (f : List Byte) (b : BlockId) : BanksAndPairs (blockWork f b s) := by
  have works {t : State} (htbs : t.tbs = s.tbs) (hotu : t.otu = s.otu)
      (hrgi : ∃ es : List Event, t.rgi = es.foldl enqueue s.rgi) : BanksAndPairs t :=
    h.of_raised ⟨congrArg₂ (fun (x : Tbs) (o : Otu) => (x, o.records, o.mode)) htbs hotu, hrgi⟩
  rcases b
  case piu => exact works (piuWork_tbs _ s) (piuWork_otu _ s) (piuWork_rgi _ s)
  case lpe => exact works (lpeWork_tbs s) (lpeWork_otu s) (lpeWork_rgi s)
  case gsq l => exact works (gsqWork_tbs l s) (gsqWork_otu l s) (gsqWork_rgi l s)
  case lsv l => exact works (lsvWork_tbs l s) (lsvWork_otu l s) (lsvWork_rgi l s)
  case eau => exact works (eauWork_tbs s) (eauWork_otu s) (eauWork_rgi s)
  case rdu => exact works (rduWork_tbs s) (rduWork_otu s) (rduWork_rgi s)
  case sdu => exact works (sduWork_tbs s) (sduWork_otu s) (sduWork_rgi s)
  case otu => exact otuWork_keeps h

/-- A sequencer's own work, come about or not, keeps the property. -/
theorem BanksAndPairs.seqOutcome {s : State} (h : BanksAndPairs s) (l : Line) {c : Prop} [Decidable c] {r : SeqResult} :
    BanksAndPairs (if c then s.withSeqResult l r else s) :=
  iteInduction (motive := BanksAndPairs) (fun _ => h.withSeqResult l r) fun _ => h

/-- What STEP_TIMER_START leaves, by the step in progress. -/
def timerIn (s : State) (l : Line) : Option (Nat × StepEntry) → State
  | some (_, e) => if ownWork s l then s.withSeqResult l (startTimer s l e (s.gsq.get l), []) else s
  | none => s

/-- What STEP_COMPLETE leaves, by the step in progress and its timer. -/
def completeIn (s : State) (l : Line) : Option (Nat × StepEntry) → Option Nat → State
  | some (_, e), some t =>
    if ownWork s l && conditionMet s l e (stepTimer s t) then s.withSeqResult l (completeStep s l e (s.gsq.get l)) else s
  | _, _ => s

/-- What STEP_TIMEOUT leaves, by the step in progress and its timer. -/
def timeoutIn (s : State) (l : Line) : Option (Nat × StepEntry) → Option Nat → State
  | some (n, e), some t =>
    if ownWork s l && !conditionMet s l e (stepTimer s t) && decide (stepTimeoutOf e ≤ stepTimer s t) then
      s.withSeqResult l (enterFault (s.gsq.get l), [seqFaultEvent s l 2 n])
    else s
  | _, _ => s

section
variable {s : State} (h : BanksAndPairs s) (l : Line) (o : Option (Nat × StepEntry)) (start : Option Nat)
include h

theorem timerIn_keeps : BanksAndPairs (timerIn s l o) := by
  rcases o
  case none => exact h
  case some => exact h.seqOutcome l

theorem completeIn_keeps : BanksAndPairs (completeIn s l o start) := by
  rcases o
  case none => exact h
  case some =>
    rcases start
    case none => exact h
    case some => exact h.seqOutcome l

theorem timeoutIn_keeps : BanksAndPairs (timeoutIn s l o start) := by
  rcases o
  case none => exact h
  case some =>
    rcases start
    case none => exact h
    case some => exact h.seqOutcome l

end

theorem of_next {P : State → Prop} {x t : State} (he : (.next x : Host.Outcome State Fault Refusal) = .next t) (hx : P x) : P t :=
  Host.Outcome.next.inj he ▸ hx

theorem banksAndPairs_kept : Kept BanksAndPairs where
  replies _ _ h := h
  downstream _ _ h := h
  drawFree _ h := h
  powerOn pins s _ := powerOn_keeps pins s
  raise _ es h := h.raiseAll es
  books _ _ h _ _ hpending := h.of_same rfl rfl rfl hpending
  pop _ _ _ h hpop := h.of_same rfl rfl rfl (congrArg Rgi.restartPending (nextEvent_frame hpop) :)
  restart _ h hp := restart_keeps h hp
  swap _ h hs := swap_keeps h hs
  failed s h := (congrArg BanksAndPairs (failedImage_frame s)).mpr h
  loops s h := iteInduction (motive := BanksAndPairs) (fun _ => h) fun _ => h
  grate l s h := h.seqOutcome l
  work f b _ h := blockWork_keeps h f b
  request r _ h := takeRequest_keeps h r
  point s i sample h :=
    BanksAndPairs.raiseAll (s := s.withPiu _) h _
  cycle l _ _ h he := of_next he (h.seqOutcome l)
  timer l s t h he := of_next he (timerIn_keeps h l _)
  complete l s t h he := of_next he (completeIn_keeps h l _ _)
  timeout l s t h he := of_next he (timeoutIn_keeps h l _ _)
  period n time s h := iteInduction (motive := BanksAndPairs) (fun _ =>
    BanksAndPairs.raiseAll (s := s.withEau _) h _) fun _ => h
  dosing l r s t h he := of_next he (iteInduction (motive := BanksAndPairs) (fun _ =>
    BanksAndPairs.raiseAll (s := s.withRdu _) h _) fun _ => h)
  delayed s g h _ :=
    BanksAndPairs.raiseAll
      (s := s.withOtu { s.otu with groups := s.otu.groups.set g groupClear, pubGroups := s.otu.pubGroups.set g false })
      h [tripReleasedEvent s g 3]
  interval s k h hk := writeRecord_keeps h hk

/-- Settles O56: every operation keeps the four parts together. -/
theorem stepsKeepBanksCheckedAndPairsApart : Obligations.StepsKeepBanksCheckedAndPairsApart := fun s t hs he =>
  step_keeps banksAndPairs_kept (fun _ _ h => h) s t hs he

end Machine
end Sys2Proof
end

section
/-! SUPPORT. The state after reset has every property of the invariants (R34, R37, R54, R83, R103, R128, R158, R176, R192). -/

namespace Sys2Proof
namespace Machine

theorem reset_banksAndPairs : BanksAndPairs State.reset := powerOn_keeps 1 State.reset

theorem reset_ringsSound : RingsSound eauLineReset :=
  ⟨by decide, by decide, .nil, .nil, List.forall_mem_nil _, List.forall_mem_nil _⟩

theorem reset_recordsSound : RecordsSound eauLineReset := by
  refine ⟨fun k => ?_, fun k => ?_, fun j m hm => ?_, List.forall_mem_nil _, List.forall_mem_nil _⟩
  · have hinst : eauLineReset.inst.get k = _ := instReset_get k
    rw [hinst]
    exact ⟨by decide, by decide⟩
  · have hacc : eauLineReset.acc.get k = _ := accEmpty_get k
    rw [hacc]
    exact Nat.le_refl 0
  · have hslot : eauLineReset.slots.get j = none := replicate_get _ j
    rw [hslot] at hm
    rcases hm

/-- An entry of the empty bank is out of service. -/
theorem reset_loop_outOfService (i : Fin 12) : yes (State.reset.tables.loops.get i).inService = false := by
  have hentry : State.reset.tables.loops.get i = emptyLoop := replicate_get _ i
  rw [hentry]
  rfl

theorem reset_sequencerSound : SequencerSound gsqReset :=
  ⟨fun _ => rfl, fun _ => ⟨rfl, rfl, rfl⟩, fun _ => ⟨rfl, rfl⟩, fun _ => rfl⟩

theorem reset_lineSound : LineSound lsvReset := by
  refine ⟨by decide, by decide, by decide, fun _ => rfl, by decide, rfl, rfl⟩

theorem reset_queueSound : QueueSound State.reset.rgi :=
  ⟨by decide, List.forall_mem_nil _, List.forall_mem_nil _⟩

theorem reset_dispatchInRange : DispatchInRange State.reset.sdu := by
  refine ⟨fun b h => ?_, fun t r h => ?_, by decide, by decide, by decide, by decide, rfl, fun h => ?_⟩
  · exact (Option.some_ne_none b h.symm).elim
  · exact (Option.some_ne_none (t, r) h.symm).elim
  · exact (Bool.false_ne_true h).elim

/-- Settles O59: each block's part at its reset values. -/
theorem resetIsSound : Obligations.ResetIsSound := by
  obtain ⟨hmarks, hbanks, hdevice, hpairs⟩ := reset_banksAndPairs
  refine ⟨reset_queueSound, hmarks, hbanks, hdevice, hpairs, fun l => ?_, fun i => ⟨?_, fun h => ?_⟩, reset_dispatchInRange,
    fun k => ?_, fun l => ?_⟩
  · rw [reset_eauLine]
    exact ⟨reset_ringsSound, reset_recordsSound⟩
  · rw [reset_loop]
    exact ⟨by decide, by decide, by decide, by decide⟩
  · exact absurd h (Bool.eq_false_iff.mp (reset_loop_outOfService i))
  · rw [(reset_record k).1]
    exact Nat.zero_le 999
  · rw [reset_gsq, reset_lsv]
    exact ⟨reset_sequencerSound, reset_lineSound⟩

end Machine
end Sys2Proof
end

section
/-! SUPPORT. An accepted frame: its books (R177 to R181), its arrival (R179) and its happenings in turn. -/

namespace Sys2Proof
namespace Machine

/-! ## What the happenings of a frame leave as its arrival has set it -/

/-- The ring interface without the parts that works, telegrams, the placing of events and a restart move. -/
def Rgi.books (r : Rgi) : Rgi :=
  { r with
    restartPending := false, high := [], normal := [], overflow := false, truncated := false, resetCause := .powerOn }

/-- The books of a frame: those of the ring interface, the bank-valid flag and the active bank. -/
def State.books (s : State) : Rgi × Bool × Bank := (s.rgi.books, s.tbs.bankValid, s.tbs.activeBank)

theorem enqueue_books (r : Rgi) (e : Event) : (enqueue r e).books = r.books :=
  iteInduction (motive := fun q : Rgi => q.books = r.books)
    (fun _ => iteInduction (motive := fun q : Rgi => q.books = r.books) (fun _ => rfl) fun _ => rfl)
    fun _ => iteInduction (motive := fun q : Rgi => q.books = r.books) (fun _ => rfl) fun _ => rfl

theorem foldl_enqueue_books (es : List Event) (r : Rgi) : (es.foldl enqueue r).books = r.books := by
  induction es generalizing r with
  | nil => rfl
  | cons e es ih => rw [List.foldl_cons, ih, enqueue_books]

theorem books_of_raised {s t : State} (htbs : t.tbs = s.tbs) (hrgi : ∃ es : List Event, t.rgi = es.foldl enqueue s.rgi) :
    t.books = s.books := by
  obtain ⟨es, hrgi⟩ := hrgi
  rw [State.books, hrgi, htbs, foldl_enqueue_books]
  rfl

theorem books_of_same {s t : State} (htbs : t.tbs = s.tbs) (hrgi : t.rgi = s.rgi) : t.books = s.books :=
  books_of_raised htbs ⟨[], hrgi⟩

theorem books_withTbs {s : State} {x : Tbs} (hvalid : x.bankValid = s.tbs.bankValid)
    (hactive : x.activeBank = s.tbs.activeBank) : (s.withTbs x).books = s.books := by
  rw [State.books, State.withTbs_tbs, hvalid, hactive]
  rfl

theorem blockWork_books (f : List Byte) (b : BlockId) (s : State) : (blockWork f b s).books = s.books := by
  rcases b
  case piu => exact books_of_raised (piuWork_tbs _ s) (piuWork_rgi _ s)
  case lpe => exact books_of_raised (lpeWork_tbs s) (lpeWork_rgi s)
  case gsq l => exact books_of_raised (gsqWork_tbs l s) (gsqWork_rgi l s)
  case lsv l => exact books_of_raised (lsvWork_tbs l s) (lsvWork_rgi l s)
  case eau => exact books_of_raised (eauWork_tbs s) (eauWork_rgi s)
  case rdu => exact books_of_raised (rduWork_tbs s) (rduWork_rgi s)
  case sdu => exact books_of_raised (sduWork_tbs s) (sduWork_rgi s)
  case otu => exact books_of_raised (otuWork_tbs s) (otuWork_rgi s)

theorem books_of_onlyRaised {s t : State} (h : OnlyRaised s t) : t.books = s.books := books_of_raised h.tbs h.2

theorem books_ite {α : Type} {s : State} {c : Prop} [Decidable c] {x y : State × α} (hx : x.1.books = s.books)
    (hy : y.1.books = s.books) : (if c then x else y).1.books = s.books :=
  iteInduction (motive := fun z : State × α => z.1.books = s.books) (fun _ => hx) fun _ => hy

/-- No telegram of the store touches the books: it moves the shadow alone. -/
theorem takeTableWrite_books (table index : Byte) (entry : List Byte) (s : State) :
    (takeTableWrite table index entry s).1.books = s.books := by
  unfold takeTableWrite
  rcases s.tbs.shadow
  case closed => rfl
  case committed => rfl
  case swapPending => rfl
  case opened =>
    exact books_ite rfl (books_ite rfl (books_ite rfl
      (books_withTbs (s.tbs.stored_bankValid _ _ entry) (s.tbs.stored_activeBank _ _ entry))))

theorem takeTableCommit_books (expected : Half) (s : State) : (takeTableCommit expected s).1.books = s.books := by
  refine books_ite rfl (books_ite rfl ?_)
  cases firstOffender s.tbs.shadowBank <;> rfl

theorem takeTableAbandon_books (s : State) : (takeTableAbandon s).1.books = s.books := by
  unfold takeTableAbandon
  cases s.tbs.shadow <;> rfl

theorem takeOutputMode_books (mode : Byte) (s : State) : (takeOutputMode mode s).1.books = s.books := by
  unfold takeOutputMode
  rcases outputModeOf mode
  case none => rfl
  case some m => exact books_ite rfl rfl

/-- No telegram touches the books. -/
theorem takeRequest_books (r : Request) (s : State) : (takeRequest r s).1.books = s.books := by
  rcases r
  case tableOpen => exact books_ite rfl (books_withTbs s.tbs.opened_bankValid s.tbs.opened_activeBank)
  case tableWrite table index entry => exact takeTableWrite_books table index entry s
  case tableRead bank table index => exact congrArg State.books (takeTableRead_state bank table index s)
  case tableCommit expected => exact takeTableCommit_books expected s
  case tableAbandon => exact takeTableAbandon_books s
  case bankSwap => exact books_ite rfl rfl
  case pointRead first last => exact congrArg State.books (takePointRead_state first last s)
  case pointForce point value => exact books_of_onlyRaised (takePointForce_onlyRaised point value s)
  case pointRelease point => exact books_of_onlyRaised (takePointRelease_onlyRaised point s)
  case loopManual loop value => exact books_of_onlyRaised (takeLoopManual_onlyRaised loop value s)
  case loopAuto loop => exact books_of_onlyRaised (takeLoopAuto_onlyRaised loop s)
  case lineCommand line kind => exact books_of_onlyRaised (takeLineCommand_onlyRaised line kind s)
  case dispatchOverride target ramp => exact books_of_onlyRaised (takeDispatchOverride_onlyRaised target ramp s)
  case dispatchClear => exact books_of_onlyRaised (takeDispatchClear_onlyRaised s)
  case outputMode mode => exact takeOutputMode_books mode s
  case tripReset group => exact books_of_onlyRaised (takeTripReset_onlyRaised group s)
  case recordRead line day index => exact congrArg State.books (takeRecordRead_state line day index s)
  case dayRead line day => exact congrArg State.books (takeDayRead_state line day s)
  case ringInfo line => exact congrArg State.books (takeRingInfo_state line s)
  case statusRead => rfl
  case restart => exact books_ite rfl rfl

theorem FrameCtx.answer_books (c : FrameCtx) (t : Telegram) (n : Nat) (run : State → State × Answer)
    (h : (run c.state).1.books = c.state.books) : (c.answer t n run).state.books = c.state.books :=
  iteInduction (motive := fun x : FrameCtx => x.state.books = c.state.books) (fun _ => h) fun _ => rfl

theorem FrameCtx.taken_books (c : FrameCtx) (t : Telegram) (n : Nat) : (c.taken t n).state.books = c.state.books := by
  refine iteInduction (motive := fun x : FrameCtx => x.state.books = c.state.books) (fun _ => rfl) fun _ =>
    iteInduction (motive := fun x : FrameCtx => x.state.books = c.state.books) (fun _ => c.answer_books t _ _ rfl) fun _ => ?_
  rcases decodeRequest t.kind t.payload
  case unknownKind => exact c.answer_books t _ _ rfl
  case badLength => exact c.answer_books t _ _ rfl
  case request r => exact c.answer_books t _ _ (takeRequest_books r _)

theorem FrameCtx.walk_books (c : FrameCtx) (w : WalkItem) : (c.walk w).state.books = c.state.books := by
  rcases w
  case telegram t =>
    exact iteInduction (motive := fun x : FrameCtx => x.state.books = c.state.books) (fun _ => FrameCtx.taken_books _ t _)
      fun _ => rfl
  case truncated => rfl

theorem nextEvent_books {r : Rgi} {p : Event × Rgi} (h : nextEvent r = some p) : p.2.books = r.books :=
  (congrArg Rgi.books (nextEvent_frame h) :)

theorem FrameCtx.placeEvent_books (c : FrameCtx) : c.placeEvent.state.books = c.state.books := by
  unfold FrameCtx.placeEvent
  rcases h : nextEvent c.state.rgi
  case none => rfl
  case some p =>
    exact iteInduction (motive := fun x : FrameCtx => x.state.books = c.state.books)
      (fun _ => congrArg (·, c.state.tbs.bankValid, c.state.tbs.activeBank) (nextEvent_books h)) fun _ => rfl

theorem FrameCtx.step_books (f : List Byte) (c : FrameCtx) (i : FrameItem) : (c.step f i).state.books = c.state.books := by
  rcases i
  case work b => exact blockWork_books f b c.state
  case walk w => exact c.walk_books w
  case events => exact (FrameCtx.placeEvent_books _).trans c.placeEvent_books

theorem foldl_step_books (f : List Byte) (is : List FrameItem) (c : FrameCtx) :
    (is.foldl (FrameCtx.step f) c).state.books = c.state.books := by
  induction is generalizing c with
  | nil => rfl
  | cons i is ih => rw [List.foldl_cons, ih, FrameCtx.step_books]

/-! ## Classification and arrival (R177 to R180) -/

/-- The difference, the class and the number of cycles of a good frame, by the last accepted cycle number (R177, R178). -/
def diffAfter (f : List Byte) : Option Nat → Nat
  | none => 0
  | some c => (frameCycle f + 65536 - c) % 65536
def classBy (d : Nat) : Option Nat → FrameClass
  | none => .first
  | some _ => if d = 0 then .duplicate else if d ≤ 1000 then .regular else .resync
def cyclesAfter (f : List Byte) : Option Nat → Nat
  | none => 1
  | some c => if diffAfter f (some c) ≤ 1000 then diffAfter f (some c) else 1

/-- The run time a frame stands for, and what becomes of it, by its class. -/
def advanceBy (d t : Nat) : FrameClass → Nat
  | .regular => d * t
  | .first => t
  | .resync => t
  | .failed => 0
  | .duplicate => 0
def handledBy {α : Type} (fail pass accept : α) : FrameClass → α
  | .failed => fail
  | .duplicate => pass
  | .first => accept
  | .regular => accept
  | .resync => accept

section
variable {f : List Byte} {o : Option Nat} (hd : ∀ c, o = some c → (frameCycle f + 65536 - c) % 65536 ≠ 0)
include hd

theorem advance_after (t : Nat) : advanceBy (diffAfter f o) t (classBy (diffAfter f o) o) = cyclesAfter f o * t := by
  rcases o
  case none => exact (Nat.one_mul t).symm
  case some c =>
    exact (congrArg (advanceBy _ t) (if_neg (hd c rfl))).trans <| (apply_ite (advanceBy _ t) _ _ _).trans <|
      (if_congr Iff.rfl rfl (Nat.one_mul t).symm).trans (ite_mul _ _ _ _).symm

theorem resync_after : classBy (diffAfter f o) o = .resync ↔ 1000 < diffAfter f o := by
  rcases o
  case none => exact iff_of_false FrameClass.noConfusion (Nat.not_lt_zero _)
  case some c =>
    exact (iff_of_eq (congrArg (· = FrameClass.resync) (if_neg (hd c rfl)))).trans <|
      ite_eq_right_iff.trans <| (imp_iff_not FrameClass.noConfusion).trans Nat.not_le

theorem handled_after {α : Type} (fail pass accept : α) : handledBy fail pass accept (classBy (diffAfter f o) o) = accept := by
  rcases o
  case none => rfl
  case some c => exact (congrArg (handledBy _ _ _) (if_neg (hd c rfl))).trans ((apply_ite (handledBy _ _ _) _ _ _).trans (ite_self _))

end

section
variable {f : List Byte} {s : State} (hg : frameGood f = true)
include hg

theorem classify_good : classify s f = classBy (diffAfter f s.rgi.lastCycle) s.rgi.lastCycle := if_neg (not_not.mpr hg)

variable (hd : ∀ c, s.rgi.lastCycle = some c → (frameCycle f + 65536 - c) % 65536 ≠ 0)
include hd

theorem advanceOf_good : advanceOf s f = cyclesAfter f s.rgi.lastCycle * countedCycle s :=
  (congrArg (advanceBy (diffAfter f s.rgi.lastCycle) (countedCycle s)) (classify_good hg)).trans (advance_after hd _)

theorem resync_good : classify s f = .resync ↔ 1000 < diffAfter f s.rgi.lastCycle :=
  (iff_of_eq (congrArg (· = FrameClass.resync) (classify_good hg))).trans (resync_after hd)

theorem handleFrame_good (picks : List Nat) : handleFrame picks f s = acceptFrame picks s f :=
  (congrArg (handledBy (failFrame s f) (passFrame s f) (acceptFrame picks s f)) (classify_good hg)).trans (handled_after hd _ _ _)

end

theorem swapBanks_rgi (s : State) : (swapBanks s).rgi = [bankSwappedEvent s].foldl enqueue s.rgi := by
  simp only [swapBanks, carryOver, State.raiseAll_rgi, State.withTbs_rgi]

theorem takePendingEffect_restart {s : State} (h : s.rgi.restartPending = true) : takePendingEffect s = restartPart s :=
  if_pos h
theorem takePendingEffect_swap {s : State} (h : s.rgi.restartPending = false) (hs : s.tbs.shadow = .swapPending) :
    takePendingEffect s = swapBanks s := (if_neg (Bool.eq_false_iff.mp h)).trans (if_pos hs)
theorem takePendingEffect_none {s : State} (h : s.rgi.restartPending = false) (hs : s.tbs.shadow ≠ .swapPending) :
    takePendingEffect s = s := (if_neg (Bool.eq_false_iff.mp h)).trans (if_neg hs)

theorem swapBanks_free (s : State) : (swapBanks s).free = s.free := by
  simp only [swapBanks, carryOver, State.raiseAll_free, State.withTbs_free]

theorem drawFree_of_swap {s : State} (h : s.rgi.restartPending = false) (hs : s.tbs.shadow = .swapPending) :
    (swapBanks s).drawFree = { takePendingEffect s with free := s.free + 1 } := by
  rw [takePendingEffect_swap h hs, ← swapBanks_free]
  rfl

/-- What is pending at an arrival changes none of the frame's numbers. -/
theorem takePendingEffect_rgi (s : State) : (takePendingEffect s).rgi.books = s.rgi.books :=
  iteInduction (motive := fun t : State => t.rgi.books = s.rgi.books) (fun _ => rfl) fun _ =>
    iteInduction (motive := fun t : State => t.rgi.books = s.rgi.books)
      (fun _ => (congrArg Rgi.books (swapBanks_rgi s)).trans (foldl_enqueue_books _ _)) fun _ => rfl

/-- What the books of two ring interfaces have in common. -/
theorem rgi_of_books {r q : Rgi} (h : r.books = q.books) :
    r.lastCycle = q.lastCycle ∧ r.plant = q.plant ∧ r.runTime = q.runTime ∧ r.advance = q.advance ∧ r.ring = q.ring ∧
      r.timer = q.timer ∧ r.address = q.address :=
  ⟨(congrArg Rgi.lastCycle h :), (congrArg Rgi.plant h :), (congrArg Rgi.runTime h :), (congrArg Rgi.advance h :), (congrArg Rgi.ring h :),
    (congrArg Rgi.timer h :), (congrArg Rgi.address h :)⟩

/-- The ring interface of an arrival: booked, and its timer started with the time then in force. -/
def arrivedRgi (s : State) (f : List Byte) (loss : Nat) : Rgi := { (bookFrame s f).rgi with timer := some loss }

theorem arrive_rgi (s : State) (f : List Byte) :
    (arrive s f).rgi.books = (arrivedRgi s f (lossTimeInForce (arrive s f))).books :=
  congrArg (fun q : Rgi => { q with timer := some (lossTimeInForce (arrive s f)) })
    ((takePendingEffect_rgi ((bookFrame s f).raiseAll (arrivalEvents s f))).trans
      (foldl_enqueue_books (arrivalEvents s f) (bookFrame s f).rgi) :
      Rgi.books (takePendingEffect ((bookFrame s f).raiseAll (arrivalEvents s f))).rgi = Rgi.books (bookFrame s f).rgi)

theorem acceptFrame_eq (picks : List Nat) (s : State) (f : List Byte) :
    acceptFrame picks s f =
      { (frameEnd picks s f).state with
        replies := (frameEnd picks s f).replies
        downstream := some (forwardFrame f (frameEnd picks s f).state.otu.window (frameEnd picks s f).placed)
        free := (frameEnd picks s f).state.free + 1 } := by
  unfold acceptFrame
  generalize frameEnd picks s f = c
  rfl

/-- An accepted frame leaves with the books of its arrival. -/
theorem acceptFrame_books (picks : List Nat) (s : State) (f : List Byte) :
    (acceptFrame picks s f).books = (arrive s f).books := by
  refine Eq.trans (books_of_same ?_ ?_) (foldl_step_books f (frameItems picks f) (frameStart s f))
  · simp only [acceptFrame, frameEnd, State.drawFree_tbs, State.withDownstream_tbs, State.withReplies_tbs]
  · simp only [acceptFrame, frameEnd, State.drawFree_rgi, State.withDownstream_rgi, State.withReplies_rgi]

theorem acceptFrame_rgi (picks : List Nat) (s : State) (f : List Byte) :
    (acceptFrame picks s f).rgi.books = (arrivedRgi s f (lossTimeInForce (acceptFrame picks s f))).books :=
  have hbooks := acceptFrame_books picks s f
  have hloss : lossTimeInForce (acceptFrame picks s f) = lossTimeInForce (arrive s f) :=
    congrArg (fun b : Rgi × Bool × Bank => if b.2.1 then b.2.2.lossTime else 2000) hbooks
  (congrArg Prod.fst hbooks).trans ((arrive_rgi s f).trans (congrArg (fun x => (arrivedRgi s f x).books) hloss.symm))

/-- A state with a frame booked that stands for the run time `a`, and the events of its arrival raised. -/
def bookedFor (s : State) (f : List Byte) (a : Nat) : State :=
  s.withRgi { s.rgi with
    ring := .synced, lastCycle := some (frameCycle f), plant := framePlant f, runTime := s.rgi.runTime + a, advance := a }
def raisedFor (s : State) (f : List Byte) (a : Nat) (late : Prop) [Decidable late] : State :=
  (bookedFor s f a).raiseAll ((if late then [eventNow (bookedFor s f a) .timeJump false 0 (detail2 3 0)] else []) ++
    if s.rgi.ring = .lost then [eventNow (bookedFor s f a) .ringRestored true 0 (cycleDiff s f)] else [])

theorem raisedFor_congr {s : State} {f : List Byte} {a b : Nat} {p q : Prop} [Decidable p] [Decidable q] (hab : a = b) (h : p ↔ q) :
    raisedFor s f a p = raisedFor s f b q := by
  subst hab
  exact congrArg (fun es => (bookedFor s f a).raiseAll (es ++ _)) (if_congr h rfl rfl)

section
variable {f : List Byte} {s : State} (hg : frameGood f = true)
  (hd : ∀ c, s.rgi.lastCycle = some c → (frameCycle f + 65536 - c) % 65536 ≠ 0)
include hg hd

theorem frameStart_good : frameStart s f =
    { state := startTimerAfresh (takePendingEffect
        (raisedFor s f (cyclesAfter f s.rgi.lastCycle * countedCycle s) (1000 < diffAfter f s.rgi.lastCycle))),
      space := replySpace f, addressed := 0, stopped := false, placed := [], replies := [] } :=
  congrArg (fun t : State => FrameCtx.mk (startTimerAfresh (takePendingEffect t)) (replySpace f) 0 false [] [])
    (raisedFor_congr (advanceOf_good hg hd) (resync_good hg hd))

theorem exec_accepted : exec (.cycleFrameArrival f) s = .next (acceptFrame (Config.workOrder s.free) s f) :=
  (exec_cycleFrameArrival f s).trans (congrArg Host.Outcome.next (handleFrame_good hg hd _))

theorem exec_good : exec (.cycleFrameArrival f) s = .next { (frameEnd (Config.workOrder s.free) s f).state with
    replies := (frameEnd (Config.workOrder s.free) s f).replies
    downstream := some (forwardFrame f (frameEnd (Config.workOrder s.free) s f).state.otu.window
      (frameEnd (Config.workOrder s.free) s f).placed)
    free := (frameEnd (Config.workOrder s.free) s f).state.free + 1 } :=
  (exec_accepted hg hd).trans (congrArg Host.Outcome.next (acceptFrame_eq _ s f))

theorem books_good {picks : List Nat} : (acceptFrame picks s f).rgi.lastCycle = some (frameCycle f) ∧
    (acceptFrame picks s f).rgi.plant = framePlant f ∧
    (acceptFrame picks s f).rgi.runTime = s.rgi.runTime + cyclesAfter f s.rgi.lastCycle * countedCycle s ∧
    (acceptFrame picks s f).rgi.advance = cyclesAfter f s.rgi.lastCycle * countedCycle s ∧
    (acceptFrame picks s f).rgi.ring = .synced ∧
    (acceptFrame picks s f).rgi.timer = some (lossTimeInForce (acceptFrame picks s f)) ∧
    (acceptFrame picks s f).rgi.address = s.rgi.address := by
  rw [← advanceOf_good hg hd]
  exact rgi_of_books (acceptFrame_rgi picks s f)

end

/-! ## The happenings (R2, R40, R59, R84, R105, R132, R143, R161, R182, R194) -/

theorem sampleOf_present {f : List Byte} {k : Nat} (h : k < slotCount f) :
    sampleOf f k =
      some { raw := halfAt f (21 + 4 * k), toggle := (byteAt f (23 + 4 * k)).getLsbD 0,
             fault := (byteAt f (23 + 4 * k)).getLsbD 1 } := if_pos h

theorem sampleOf_absent {f : List Byte} {k : Nat} (h : slotCount f ≤ k) : sampleOf f k = none := if_neg (Nat.not_lt.mpr h)

/-- Settles O4: the arrival by its class, the books at the end by `acceptFrame_rgi`, the happenings as `FrameCtx.step` has them. -/
theorem acceptedFrameKeepsTheBooks : Obligations.AcceptedFrameKeepsTheBooks := by
  refine ⟨fun f s hg hd => ?_, fun u => ⟨fun hr => ?_, fun hr hs => ?_, fun hr hs => takePendingEffect_none hr hs⟩, fun f c =>
    ⟨⟨rfl, rfl, fun _ => rfl, fun _ => rfl, rfl, rfl, rfl, rfl⟩, fun _ => rfl, fun k => ⟨sampleOf_present, sampleOf_absent⟩⟩⟩
  · intro n a d event raised b
    exact ⟨frameStart_good hg hd, ⟨Config.workOrder s.free, exec_good hg hd⟩, _, exec_accepted hg hd, books_good hg hd⟩
  · exact congrArg Host.Outcome.next ((if_pos hr).trans (takePendingEffect_restart hr).symm)
  · exact congrArg Host.Outcome.next ((if_pos ⟨hs, Bool.eq_false_iff.mp hr⟩).trans (drawFree_of_swap hr hs))

end Machine
end Sys2Proof
end

section
/-! SUPPORT. The work of the steam dispatch unit: capability, pressure state and the move of the set point (R147 to R154). -/

namespace Sys2Proof
namespace Machine

theorem sduWork_run {s : State} (h : s.running = true) : sduWork s = (s.withSdu (sduAfter s)).raiseAll (pressureEvents s) :=
  if_pos h
theorem sduWork_config {s : State} (h : s.running = false) : sduWork s = s := if_neg (Bool.eq_false_iff.mp h)

theorem capabilityOf_le_rated (s : State) : capabilityOf s ≤ ratedOf s.tables.turbine :=
  iteInduction (motive := (· ≤ ratedOf s.tables.turbine)) (fun _ => Nat.zero_le _) fun _ => Nat.min_le_left _ _

theorem effectiveTarget_le (s : State) : effectiveTarget s ≤ capabilityOf s :=
  (Nat.min_le_right _ _).trans (Nat.min_le_left _ _)

/-- The set point a work moves from: clamped, and at rest after a clamp or a change of the pressure state (R149, R151). -/
theorem clampedMover_eq (s : State) :
    clampedMover s =
      if limitingAfter s ≠ s.sdu.limiting ∨ capabilityOf s < s.sdu.setPoint then .rest (min s.sdu.setPoint (capabilityOf s))
      else { value := s.sdu.setPoint, acc := s.sdu.acc, dir := s.sdu.dir } := by
  unfold clampedMover
  by_cases hc : capabilityOf s < s.sdu.setPoint
  · exact (if_pos hc).trans ((congrArg Mover.rest (Nat.min_eq_right hc.le).symm).trans (if_pos (.inr hc)).symm)
  · exact (if_neg hc).trans (if_congr (or_iff_left hc).symm (congrArg Mover.rest (Nat.min_eq_left (Nat.not_lt.mp hc)).symm) rfl)

theorem clampedMover_le (s : State) : (clampedMover s).value ≤ capabilityOf s := by
  unfold clampedMover
  by_cases hc : capabilityOf s < s.sdu.setPoint
  · rw [if_pos hc]
    exact le_rfl
  · rw [if_neg hc]
    exact iteInduction (motive := fun x : Mover => x.value ≤ capabilityOf s) (fun _ => Nat.not_lt.mp hc) fun _ => Nat.not_lt.mp hc

theorem moverAfter_le (s : State) : (moverAfter s).value ≤ capabilityOf s :=
  iteInduction (motive := fun x : Mover => x.value ≤ capabilityOf s) (fun _ => Nat.zero_le _) fun _ =>
    iteInduction (motive := fun x : Mover => x.value ≤ capabilityOf s)
      (fun _ => Mover.toward_le_bound (clampedMover_le s) (Nat.zero_le _) _ _)
      fun _ => Mover.toward_le_bound (clampedMover_le s) (effectiveTarget_le s) _ _

/-- The move outside the trip hold, by the pressure state, the capability and the effective target of the work (R149 to R152). -/
def moveFrom (s : State) (limiting : Bool) (capability effective : Nat) : Mover :=
  Mover.toward (if limiting ≠ s.sdu.limiting ∨ capability < s.sdu.setPoint then .rest (min s.sdu.setPoint capability)
    else { value := s.sdu.setPoint, acc := s.sdu.acc, dir := s.sdu.dir }) (if limiting then 0 else effective)
    ((if limiting then fastRampOf s.tables.turbine else rampInUse s) * s.rgi.advance) 60000

theorem moverAfter_free {s : State} (h : s.sdu.tripHold = false) :
    moverAfter s = moveFrom s (limitingAfter s) (capabilityOf s) (effectiveTarget s) :=
  (if_neg (Bool.eq_false_iff.mp h)).trans <|
    (apply_ite₂ (fun t g => Mover.toward _ t (g * s.rgi.advance) 60000) _ _ _ _ _).symm.trans <|
      congrArg (Mover.toward · _ _ 60000) (clampedMover_eq s)

theorem usable_iff (q : Quality) : q.usable = true ↔ q = .good ∨ q = .clamped ∨ q = .forced :=
  iff_of_eq_decide (by rcases q <;> rfl)

theorem turbineSource_zero (b : Bank) : turbineSource b 0 = 0 :=
  iteInduction (motive := (· = 0)) (fun _ => rfl) fun _ => by rw [Nat.zero_mul, Nat.zero_div]

/-! ## The record after a work in RUN -/

theorem sduWork_sdu {s : State} (h : s.running = true) : (sduWork s).sdu = sduAfter s := congrArg State.sdu (sduWork_run h)
theorem sduWork_events {s : State} (h : s.running = true) : (sduWork s).rgi = List.foldl enqueue s.rgi (pressureEvents s) :=
  congrArg State.rgi (sduWork_run h)

section
variable {s : State} {d : Sdu} (hd : d = sduAfter s)
include hd

theorem setPoint_le_capability : d.setPoint ≤ d.capability :=
  (congrArg (fun d : Sdu => d.setPoint ≤ d.capability) hd).mpr (moverAfter_le s)

theorem capability_le_rated : d.capability ≤ ratedOf s.tables.turbine :=
  (congrArg (fun d : Sdu => d.capability ≤ _) hd).mpr (capabilityOf_le_rated s)

theorem effective_eq : d.effective = min d.target (min d.capability (ratedOf s.tables.turbine)) :=
  (congrArg (fun d : Sdu => d.effective = min d.target (min d.capability _)) hd).mpr rfl

theorem setPoint_is {m : Mover} (h : moverAfter s = m) : d.setPoint = m.value ∧ d.acc = m.acc ∧ d.dir = m.dir :=
  ⟨(congrArg Sdu.setPoint hd).trans (congrArg Mover.value h), (congrArg Sdu.acc hd).trans (congrArg Mover.acc h),
    (congrArg Sdu.dir hd).trans (congrArg Mover.dir h)⟩

theorem at_rest (h : s.sdu.tripHold = true) : d.setPoint = 0 ∧ d.acc = 0 ∧ d.dir = .none ∧ d.pubSource = 0 :=
  (setPoint_is hd (if_pos h)).imp_right <| And.imp_right fun hdir => ⟨hdir, ((congrArg Sdu.pubSource hd).trans
    (congrArg (fun m : Mover => turbineSource s.tables m.value) (if_pos h))).trans (turbineSource_zero _)⟩

theorem override_kept (h : d.block = s.sdu.block) : d.override = s.sdu.override :=
  (congrArg Sdu.override hd).trans (if_pos ((congrArg Sdu.block hd).symm.trans h))
theorem override_dropped (h : d.block ≠ s.sdu.block) : d.override = none :=
  (congrArg Sdu.override hd).trans (if_neg ((congrArg Sdu.block hd).symm.trans_ne h))

theorem moverAfter_eq (h : s.sdu.tripHold = false) : moverAfter s = moveFrom s d.limiting d.capability d.effective :=
  (moverAfter_free h).trans (congrArg (fun d : Sdu => moveFrom s d.limiting d.capability d.effective) hd.symm)

theorem limiting_eq : d.limiting = limitingAfter s := congrArg Sdu.limiting hd

theorem pressureEvents_eq : pressureEvents s =
    if d.limiting = s.sdu.limiting then [] else [eventNow s .pressureLimit false 0 (if d.limiting then 1 else 0)] :=
  congrArg (fun x : Bool => if x = s.sdu.limiting then ([] : List Event) else
    [eventNow s .pressureLimit false 0 (if x then 1 else 0)]) (limiting_eq hd).symm

theorem limiting_stays (hu : ¬ ((s.point s.tables.turbine.pressurePoint).quality = .good ∨
    (s.point s.tables.turbine.pressurePoint).quality = .clamped ∨ (s.point s.tables.turbine.pressurePoint).quality = .forced)) :
    d.limiting = s.sdu.limiting := (limiting_eq hd).trans (if_pos fun h => hu ((usable_iff _).mp h))

variable (hu : (s.point s.tables.turbine.pressurePoint).quality = .good ∨
  (s.point s.tables.turbine.pressurePoint).quality = .clamped ∨ (s.point s.tables.turbine.pressurePoint).quality = .forced)
include hu

/-- The rows of R151, the pressure point usable. -/
theorem limiting_row : d.limiting = if s.sdu.limiting then
    !decide ((s.tables.turbine.pLow.toNat : Int) + bandOf s.tables.turbine ≤ (s.point s.tables.turbine.pressurePoint).value)
    else decide ((s.point s.tables.turbine.pressurePoint).value < (s.tables.turbine.pLow.toNat : Int)) :=
  (limiting_eq hd).trans (if_neg (not_not.mpr ((usable_iff _).mpr hu)))

theorem limiting_begins (hl : s.sdu.limiting = false) :
    d.limiting = true ↔ (s.point s.tables.turbine.pressurePoint).value < (s.tables.turbine.pLow.toNat : Int) :=
  (iff_of_eq (congrArg (· = true) ((limiting_row hd hu).trans (if_neg (Bool.eq_false_iff.mp hl))))).trans decide_eq_true_iff

theorem limiting_ends (hl : s.sdu.limiting = true) : d.limiting = false ↔
    (s.tables.turbine.pLow.toNat : Int) + bandOf s.tables.turbine ≤ (s.point s.tables.turbine.pressurePoint).value :=
  (iff_of_eq ((congrArg (· = false) ((limiting_row hd hu).trans (if_pos hl))).trans (Bool.not_eq_false' _))).trans
    decide_eq_true_iff

end

theorem sduWork_unchanged {s : State} (hr : s.running = true) (h : (sduWork s).sdu.limiting = s.sdu.limiting) :
    (sduWork s).rgi = s.rgi :=
  (sduWork_events hr).trans (congrArg (List.foldl enqueue s.rgi) ((pressureEvents_eq (sduWork_sdu hr)).trans (if_pos h)))

theorem sduWork_changed {s : State} (hr : s.running = true) (h : (sduWork s).sdu.limiting ≠ s.sdu.limiting) :
    (sduWork s).rgi = enqueue s.rgi (eventNow s .pressureLimit false 0 (if (sduWork s).sdu.limiting then 1 else 0)) :=
  (sduWork_events hr).trans (congrArg (List.foldl enqueue s.rgi) ((pressureEvents_eq (sduWork_sdu hr)).trans (if_neg h)))

/-- Settles O47: the record after a work is `sduAfter`, its set point the move of `clampedMover`. -/
theorem setPointCapabilityAndPressureState : Obligations.SetPointCapabilityAndPressureState := by
  refine ⟨fun s => ⟨?_, sduWork_config⟩, fun s hr => ?_, fun s hr => ?_⟩
  · exact iteInduction (motive := fun t : State => t = { s with sdu := t.sdu, rgi := t.rgi }) (fun _ => rfl) fun _ => rfl
  · intro d available extraction rated
    exact ⟨congrArg Sdu.capability (sduWork_sdu hr), effective_eq (sduWork_sdu hr), setPoint_le_capability (sduWork_sdu hr),
      capability_le_rated (sduWork_sdu hr),
      at_rest (sduWork_sdu hr),
      (congrArg Sdu.tripHold (sduWork_sdu hr) :), congrArg Sdu.block (sduWork_sdu hr), override_kept (sduWork_sdu hr),
      override_dropped (sduWork_sdu hr)⟩
  · intro d p low usable
    exact ⟨limiting_begins (sduWork_sdu hr), limiting_ends (sduWork_sdu hr), limiting_stays (sduWork_sdu hr),
      sduWork_unchanged hr,
      sduWork_changed hr,
      fun h => setPoint_is (sduWork_sdu hr) (moverAfter_eq (sduWork_sdu hr) h)⟩

end Machine
end Sys2Proof
end

section
/-! SUPPORT. The work of the reagent dosing unit: set points, terms, carbon and the limit records (R132 to R139). -/

namespace Sys2Proof
namespace Machine

theorem rduWork_run {s : State} (h : s.running = true) :
    rduWork s =
      (s.withRdu { lines := { one := rduLineAfter s .one s.rdu.lines.one, two := rduLineAfter s .two s.rdu.lines.two } }).raiseAll
        (rduEvents s .one s.rdu.lines.one ++ rduEvents s .two s.rdu.lines.two) :=
  if_pos h
theorem rduWork_config {s : State} (h : s.running = false) : rduWork s = s := if_neg (Bool.eq_false_iff.mp h)

theorem rduWork_line {s : State} (h : s.running = true) (l : Line) :
    (rduWork s).rdu.lines.get l = rduLineAfter s l (s.rdu.lines.get l) := by
  rw [rduWork_run h]
  rcases l <;> rfl

theorem rduWork_frame {s : State} (h : s.running = true) :
    rduWork s = { s with rdu := (rduWork s).rdu, rgi := (rduWork s).rgi } := by
  rw [rduWork_run h]
  rfl
theorem rduWork_queue {s : State} (h : s.running = true) :
    (rduWork s).rgi = (rduEvents s .one s.rdu.lines.one ++ rduEvents s .two s.rdu.lines.two).foldl enqueue s.rgi := by
  rw [rduWork_run h]
  rfl

/-! ## Set points, terms and carbon of a line's record after a work (R133 to R136) -/

section
variable {s : State} {l : Line} {h : HalfLatch} (hl : (s.eau.lines.get l).latch = some h)
include hl

theorem normalizable_iff : normalizable s l = true ↔ dryOxygen s l < h.o2Ceil := by
  unfold normalizable latchedCeil
  rw [hl]
  exact decide_eq_true_iff

theorem convertTarget_of_latch (k : Fin 6) (target : Nat) : convertTarget s l k target = min 65535
    (roundHalfUp (target * (10000 - componentH s l k) * (2100 - dryOxygen s l)) (10000 * (2100 - h.o2Ref))) := by
  unfold convertTarget latchedRef
  rw [hl]
  rfl

variable {x y : RduLine} (hy : y = rduLineAfter s l x)
include hy

theorem sets_converted (hc : dryOxygen s l < h.o2Ceil) :
    y.ureaSet = min 65535 (roundHalfUp ((dosingOf s l).noxTarget.toNat * (10000 - componentH s l 3) * (2100 - dryOxygen s l))
      (10000 * (2100 - h.o2Ref))) ∧
    y.limeSet = min 65535 (roundHalfUp ((dosingOf s l).hclTarget.toNat * (10000 - componentH s l 1) * (2100 - dryOxygen s l))
      (10000 * (2100 - h.o2Ref))) :=
  ⟨(congrArg RduLine.ureaSet hy).trans ((if_pos ((normalizable_iff hl).mpr hc)).trans (convertTarget_of_latch hl _ _)),
    (congrArg RduLine.limeSet hy).trans ((if_pos ((normalizable_iff hl).mpr hc)).trans (convertTarget_of_latch hl _ _))⟩

theorem sets_held (hc : h.o2Ceil ≤ dryOxygen s l) : y.ureaSet = x.ureaSet ∧ y.limeSet = x.limeSet :=
  ⟨(congrArg RduLine.ureaSet hy).trans (if_neg fun hn => hc.not_gt ((normalizable_iff hl).mp hn)),
    (congrArg RduLine.limeSet hy).trans (if_neg fun hn => hc.not_gt ((normalizable_iff hl).mp hn))⟩

end

section
variable {s : State} {l : Line} {x y : RduLine} (hy : y = rduLineAfter s l x)
include hy

theorem urea_formed (hu : (steamPointOf s l).quality.usable = true) :
    y.ureaTerm = thousandths ((steamPointOf s l).value.toNat * (dosingOf s l).ureaRatio.toNat) ∧
      y.lastSteam = (steamPointOf s l).value.toNat :=
  ⟨(congrArg RduLine.ureaTerm hy).trans (if_pos hu), (congrArg RduLine.lastSteam hy).trans (if_pos hu)⟩
theorem urea_held (hu : (steamPointOf s l).quality.usable = false) : y.ureaTerm = x.ureaTerm ∧ y.lastSteam = x.lastSteam :=
  ⟨(congrArg RduLine.ureaTerm hy).trans (if_neg (Bool.eq_false_iff.mp hu)),
    (congrArg RduLine.lastSteam hy).trans (if_neg (Bool.eq_false_iff.mp hu))⟩

theorem lime_formed : y.limeTerm =
    thousandths (normalizedSo2 s l * (dosingOf s l).so2Weight.toNat + y.lastSteam * (dosingOf s l).limeBase.toNat) := by
  subst hy
  rfl

theorem carbon_off (ho : (s.lsv.get l).pub.operating = false) : y.carbon = 0 :=
  (congrArg RduLine.carbon hy).trans (if_pos (Bool.eq_false_iff.mp ho))
theorem carbon_formed (ho : (s.lsv.get l).pub.operating = true) (hu : (s.point (dosingOf s l).flowPoint).quality.usable = true) :
    y.carbon = thousandths ((s.point (dosingOf s l).flowPoint).value.toNat * (dosingOf s l).carbonRate.toNat) :=
  (congrArg RduLine.carbon hy).trans ((if_neg (not_not.mpr ho)).trans (if_pos hu))
theorem carbon_held (ho : (s.lsv.get l).pub.operating = true) (hu : (s.point (dosingOf s l).flowPoint).quality.usable = false) :
    y.carbon = x.carbon :=
  (congrArg RduLine.carbon hy).trans ((if_neg (not_not.mpr ho)).trans (if_neg (Bool.eq_false_iff.mp hu)))

end

/-! ## Limit records (R138, R139) -/

/-- Whether the output of a reagent is at its maximum, with the carbon demand given. -/
def maxed (s : State) (l : Line) (carbon : Nat) (r : Reagent) : Bool :=
  (s.lsv.get l).pub.operating &&
    match r with
    | .carbon => decide (carbon = 10000)
    | .urea | .lime => yes (s.tables.loops.get (dosingLoop l r)).inService &&
        decide (outMaxOf (s.tables.loops.get (dosingLoop l r)) ≤ (s.lpe.loops.get (dosingLoop l r)).published)

theorem atMaximum_eq (s : State) (l : Line) (carbon : Nat) (r : Reagent) : atMaximum s l carbon r = maxed s l carbon r := by
  rcases r <;> rfl

/-- Whether a record is due in a work. -/
def dueIn (s : State) (x : LimitRecord) : Bool := decide (limitTimeOf s.tables.dosing * 1000 ≤ s.rgi.runTime - sinceAfter s x)

/-- Reporting adds to the mark what the due time adds, whether or not the mark stood (R139). -/
theorem limitAfter_eq (s : State) (m : Bool) (x : LimitRecord) : limitAfter s m x =
    if m then { since := some (sinceAfter s x), reported := x.reported || dueIn s x } else { since := none, reported := false } := by
  unfold limitAfter limitDue dueIn
  rcases x.reported <;> rfl

theorem limit_after {s : State} {l : Line} {x y : RduLine} (hy : y = rduLineAfter s l x) (r : Reagent) : y.limit r =
    if maxed s l y.carbon r then { since := some (sinceAfter s (x.limit r)), reported := (x.limit r).reported || dueIn s (x.limit r) }
    else { since := none, reported := false } := by
  rw [← limitAfter_eq, ← atMaximum_eq, hy]
  rcases r <;> rfl

/-- The report of a limit record in a work. -/
def reportOf (s : State) (carbon : Line → Nat) (p : Line × Reagent) : Option Event :=
  if atMaximum s p.1 (carbon p.1) p.2 && !((s.rdu.lines.get p.1).limit p.2).reported && dueIn s ((s.rdu.lines.get p.1).limit p.2) then
    some (dosingLimitEvent s p.1 p.2)
  else none

theorem limitEvent_eq (s : State) (l : Line) (m : Bool) (r : Reagent) (x : LimitRecord) : limitEvent s l m r x =
    (if m && !x.reported && dueIn s x then some (dosingLimitEvent s l r) else none).toList := by
  rw [Bool.and_assoc, apply_ite Option.toList]
  rfl

theorem filterMap_three {α β : Type} (f : α → Option β) (a b c : α) :
    [a, b, c].filterMap f = (f a).toList ++ (f b).toList ++ (f c).toList := by
  rw [List.filterMap_eq_flatMap_toList, List.append_assoc, ← List.append_nil (f c).toList]
  rfl

theorem rduEvents_eq {s : State} {l : Line} {carbon : Line → Nat} (h : carbon l = carbonAfter s l (s.rdu.lines.get l).carbon) :
    rduEvents s l (s.rdu.lines.get l) = [(l, Reagent.urea), (l, .lime), (l, .carbon)].filterMap (reportOf s carbon) := by
  rw [filterMap_three]
  unfold rduEvents
  dsimp only
  rw [← h, limitEvent_eq, limitEvent_eq, limitEvent_eq]
  rfl

theorem rduWork_reports {s : State} (hr : s.running = true) : (rduWork s).rgi =
    ([(Line.one, Reagent.urea), (.one, .lime), (.one, .carbon), (.two, .urea), (.two, .lime), (.two, .carbon)].filterMap
      (reportOf s fun l => ((rduWork s).rdu.lines.get l).carbon)).foldl enqueue s.rgi :=
  (rduWork_queue hr).trans (congrArg (List.foldl enqueue s.rgi) ((congrArg₂ (· ++ ·)
    (rduEvents_eq (l := .one) (congrArg RduLine.carbon (rduWork_line hr .one)))
    (rduEvents_eq (l := .two) (congrArg RduLine.carbon (rduWork_line hr .two)))).trans List.filterMap_append.symm))

/-- Settles O43: each line's record is `rduLineAfter`, the events are those of the six limit records in their order. -/
theorem dosingWorkFormsSetPointsAndTerms : Obligations.DosingWorkFormsSetPointsAndTerms := by
  refine ⟨fun l s h hr hl => ?_, fun s => rduWork_config, fun s hr => ?_⟩
  · exact ⟨sets_converted hl (rduWork_line hr l), sets_held hl (rduWork_line hr l), urea_formed (rduWork_line hr l),
      urea_held (rduWork_line hr l), lime_formed (rduWork_line hr l), carbon_off (rduWork_line hr l),
      carbon_formed (rduWork_line hr l), carbon_held (rduWork_line hr l), rduWork_frame hr⟩
  · exact ⟨fun l => limit_after (rduWork_line hr l), rduWork_reports hr⟩

end Machine
end Sys2Proof
end

section
/-! SUPPORT. The work of a line supervisor: the rows of R86 by the state of the line, and the record it publishes (R84 to R101). -/

namespace Sys2Proof
namespace Machine

/-! ## The work as one record and its events (R86, R95) -/

/-- A line's record after the transition of a work, and the events of it. -/
def movedBy (s : State) (l : Line) : Option (LineState × LineCause) → Lsv
  | some (st, c) => enterLine s.rgi.runTime st c (s.lsv.get l)
  | none => s.lsv.get l
def eventsOf (s : State) (l : Line) : Option (LineState × LineCause) → List Event
  | some (st, c) => [lineStateEvent s l st c]
  | none => []
def lineMoved (s : State) (l : Line) : Lsv := movedBy s l (lineTransition s l)

/-- A line's record after a work. -/
def lineAfter (s : State) (l : Line) : Lsv :=
  let samples := samplesAfter s l (lineMoved s l).state
  { lineMoved s l with
    bandSince := bandAfter s l
    qualified := bandQualified s l (bandAfter s l)
    lastCount := (s.gsq.get l).pub.cycleCount
    samples := samples
    pub := lineRecord s l (lineMoved s l).state (lineMoved s l).cause (heatingValue s l samples) }

theorem lsvWork_config {s : State} (h : s.running = false) (l : Line) : lsvWork l s = s := if_neg (Bool.eq_false_iff.mp h)

section
variable {s : State} {l : Line}

theorem lsvWork_run (h : s.running = true) : lsvWork l s = (s.withLsv l (lineAfter s l)).raiseAll (eventsOf s l (lineTransition s l)) :=
  (if_pos h).trans rfl

theorem lsvWork_line (h : s.running = true) : (lsvWork l s).lsv.get l = lineAfter s l := by
  rw [lsvWork_run h]
  exact PerLine.get_set_same _ _ _

/-- A work that leaves the line where it was, publishes and raises nothing. -/
def LineKept (s : State) (l : Line) : Prop :=
  ((lsvWork l s).lsv.get l).state = (s.lsv.get l).state ∧ ((lsvWork l s).lsv.get l).cause = (s.lsv.get l).cause ∧
    ((lsvWork l s).lsv.get l).burnoutStart = (s.lsv.get l).burnoutStart ∧
    lsvWork l s = { s with lsv := s.lsv.set l ((lsvWork l s).lsv.get l) }

/-- A work that moves the line. -/
def LineMovedTo (s : State) (l : Line) (st : LineState) (c : LineCause) (start : Option Nat) : Prop :=
  ((lsvWork l s).lsv.get l).state = st ∧ ((lsvWork l s).lsv.get l).cause = c ∧
    ((lsvWork l s).lsv.get l).burnoutStart = start ∧
    ((lsvWork l s).lsv.get l).pub.state = st ∧ ((lsvWork l s).lsv.get l).pub.cause = c ∧
    lsvWork l s = ({ s with lsv := s.lsv.set l ((lsvWork l s).lsv.get l) } : State).raiseAll
      [{ kind := .lineState, high := st == .tripped, cycle := s.rgi.cycleNow, plant := s.rgi.plant,
         subject := l.number, detail := 256 * st.code + c.code }]

theorem lineKept_of_none (h : s.running = true) (ht : lineTransition s l = none) : LineKept s l := by
  have hmoved : lineMoved s l = s.lsv.get l := congrArg (movedBy s l) ht
  have hline := lsvWork_line (l := l) h
  exact ⟨(congrArg Lsv.state hline).trans (congrArg Lsv.state hmoved :), (congrArg Lsv.cause hline).trans (congrArg Lsv.cause hmoved :),
    (congrArg Lsv.burnoutStart hline).trans (congrArg Lsv.burnoutStart hmoved :), (lsvWork_run h).trans
    (congrArg₂ (fun x es => (s.withLsv l x).raiseAll es) hline.symm (congrArg (eventsOf s l) ht))⟩

theorem lineStateEvent_eq (st : LineState) (c : LineCause) : lineStateEvent s l st c =
    { kind := .lineState, high := st == .tripped, cycle := s.rgi.cycleNow, plant := s.rgi.plant, subject := l.number,
      detail := 256 * st.code + c.code } := by
  rw [Nat.mul_comm 256]
  rfl

section
variable {st : LineState} {c : LineCause} (ht : lineTransition s l = some (st, c))
include ht

theorem lineMoved_of_some : lineMoved s l = enterLine s.rgi.runTime st c (s.lsv.get l) :=
  congrArg (movedBy s l) ht

theorem linePub_of_some (h : s.running = true) : ((lsvWork l s).lsv.get l).pub =
    lineRecord s l st c (heatingValue s l (samplesAfter s l st)) :=
  (congrArg Lsv.pub (lsvWork_line h)).trans
    (congrArg (fun v : Lsv => lineRecord s l v.state v.cause (heatingValue s l (samplesAfter s l v.state))) (lineMoved_of_some ht))

theorem lineMovedTo_of_some (h : s.running = true) :
    LineMovedTo s l st c (if st = .burnout then some s.rgi.runTime else none) := by
  have hmoved := lineMoved_of_some ht
  have hline := lsvWork_line (l := l) h
  have hpub := linePub_of_some ht h
  exact ⟨(congrArg Lsv.state hline).trans (congrArg Lsv.state hmoved :), (congrArg Lsv.cause hline).trans (congrArg Lsv.cause hmoved :),
    (congrArg Lsv.burnoutStart hline).trans (congrArg Lsv.burnoutStart hmoved :), congrArg LineRecord.state hpub,
    congrArg LineRecord.cause hpub, (lsvWork_run h).trans (congrArg₂ (fun x es => (s.withLsv l x).raiseAll es) hline.symm
      ((congrArg (eventsOf s l) ht).trans (congrArg (fun e => [e]) (lineStateEvent_eq st c))))⟩

end

section
variable {r : Option (LineState × LineCause)} (ht : lineTransition s l = r)
include ht

theorem exec_tempQualified_next (h : r = some (.waste, .tempQualified)) : exec (.tempQualified l) s = .next (lsvWork l s) :=
  congrArg Host.Outcome.next (if_pos (ht.trans h))
theorem exec_burnoutEnd_next (h : r = some (.start, .burnoutEnd)) : exec (.burnoutEnd l) s = .next (lsvWork l s) :=
  congrArg Host.Outcome.next (if_pos (ht.trans h))
theorem exec_tempQualified_same (h : (r = some (.waste, .tempQualified) : Bool) = false) : exec (.tempQualified l) s = .next s :=
  congrArg Host.Outcome.next (if_neg (ht.trans_ne (of_decide_eq_false h)))
theorem exec_burnoutEnd_same (h : (r = some (.start, .burnoutEnd) : Bool) = false) : exec (.burnoutEnd l) s = .next s :=
  congrArg Host.Outcome.next (if_neg (ht.trans_ne (of_decide_eq_false h)))

end

/-! ## What the rows look at (R87, R93, R94) -/

/-- The temperature is below the minimum, or not usable. -/
def LowTemp (s : State) (l : Line) : Prop :=
  (s.point (s.tables.combustion.get l).t2sPoint).quality.usable = false ∨
    (s.point (s.tables.combustion.get l).t2sPoint).value < tminOf (s.tables.combustion.get l)

/-- A time that starts at `since` has reached `hold`. -/
def HeldSince (s : State) (hold : Nat) (since : Option Nat) : Prop :=
  ∃ t, since = some t ∧ hold ≤ s.rgi.runTime - t

theorem tempLow_iff : tempLow s l = true ↔ LowTemp s l :=
  Bool.or_eq_true_iff.trans (or_congr (iff_of_eq (Bool.not_eq_true' _)) decide_eq_true_iff)

theorem bandQualified_iff {since : Option Nat} :
    bandQualified s l since = true ↔ HeldSince s (qualHoldOf (s.tables.combustion.get l)) since :=
  someAnd_iff (P := fun t => qualHoldOf (s.tables.combustion.get l) ≤ s.rgi.runTime - t) since

theorem burnoutOver_iff : burnoutOver s l = true ↔
    HeldSince s (burnoutTimeOf (s.tables.combustion.get l) * 1000) (s.lsv.get l).burnoutStart :=
  someAnd_iff (P := fun t => burnoutTimeOf (s.tables.combustion.get l) * 1000 ≤ s.rgi.runTime - t) _

theorem any_finRange_iff {n : Nat} {f : Fin n → Bool} {P : Fin n → Prop} (h : ∀ j, f j = true ↔ P j) :
    (List.finRange n).any f = true ↔ ∃ j, P j :=
  List.any_eq_true.trans (exists_congr fun j => (and_iff_right (List.mem_finRange j)).trans (h j))

theorem lineTripCause_iff (l : Line) (s : State) : lineTripCause s l = true ↔
    ∃ g : Fin 8, s.otu.pubGroups.get g = true ∧ effectIncludes (s.tables.groups.get g).lineEffect l = true :=
  any_finRange_iff fun _ => Bool.and_eq_true_iff

/-! ## The rows of R86, by the state of the line -/

/-- The first row of R86 that holds, by what the rows look at. -/
def rowOfR86 (st : LineState) (trip stop low band done : Bool) : Option (LineState × LineCause) :=
  if st ≠ .tripped ∧ trip then some (.tripped, .trip)
  else if (st = .waste ∨ st = .inhibit) ∧ stop then some (.burnout, .emissionStop)
  else if st = .waste ∧ low then some (.inhibit, .tempLow)
  else if st = .inhibit ∧ band then some (.waste, .tempQualified)
  else if st = .burnout ∧ done then some (.start, .burnoutEnd)
  else none

theorem lineTransition_eq {st : LineState} {trip stop low band done : Bool} (hst : (s.lsv.get l).state = st)
    (hc : lineTripCause s l = trip) (hs : (s.eau.lines.get l).pub.stop = stop) (hl : tempLow s l = low)
    (hb : bandQualified s l (bandAfter s l) = band) (hd : burnoutOver s l = done) :
    lineTransition s l = rowOfR86 st trip stop low band done := by
  subst hst hc hs hl hb hd
  rfl

/-! ## A work in RUN by the rows of R86 -/

section
variable (hr : s.running = true)
include hr

theorem lsvWork_bandSince : ((lsvWork l s).lsv.get l).bandSince = bandAfter s l :=
  congrArg Lsv.bandSince (lsvWork_line hr)

theorem held_iff : bandQualified s l (bandAfter s l) = true ↔
    HeldSince s (qualHoldOf (s.tables.combustion.get l)) ((lsvWork l s).lsv.get l).bandSince :=
  bandQualified_iff.trans (iff_of_eq (congrArg (HeldSince s _) (lsvWork_bandSince hr).symm))

theorem lsvWork_qualified :
    ((lsvWork l s).lsv.get l).qualified = true ↔
      HeldSince s (qualHoldOf (s.tables.combustion.get l)) ((lsvWork l s).lsv.get l).bandSince :=
  (iff_of_eq (congrArg (Lsv.qualified · = true) (lsvWork_line hr))).trans (held_iff hr)

theorem row_trip (hc : lineTripCause s l = true) (hst : (s.lsv.get l).state ≠ .tripped) :
    LineMovedTo s l .tripped .trip none ∧ exec (.tempQualified l) s = .next s ∧ exec (.burnoutEnd l) s = .next s :=
  have ht : lineTransition s l = some (.tripped, .trip) := if_pos ⟨hst, hc⟩
  ⟨lineMovedTo_of_some ht hr, exec_tempQualified_same ht rfl, exec_burnoutEnd_same ht rfl⟩

theorem row_none {c : Bool} (hc : lineTripCause s l = c) {st : LineState}
    (h : ∀ stop low band done, rowOfR86 st c stop low band done = none) (hst : (s.lsv.get l).state = st) : LineKept s l :=
  lineKept_of_none hr ((lineTransition_eq hst hc rfl rfl rfl rfl).trans (h _ _ _ _))

variable (hc : lineTripCause s l = false)
include hc

theorem row_idle : (s.lsv.get l).state = .off ∨ (s.lsv.get l).state = .start ∨ (s.lsv.get l).state = .tripped → LineKept s l :=
  Or.rec (row_none hr hc fun _ _ _ _ => rfl) (Or.rec (row_none hr hc fun _ _ _ _ => rfl) (row_none hr hc fun _ _ _ _ => rfl))

theorem row_stop (hst : (s.lsv.get l).state = .waste ∨ (s.lsv.get l).state = .inhibit)
    (hs : (s.eau.lines.get l).pub.stop = true) : LineMovedTo s l .burnout .emissionStop (some s.rgi.runTime) :=
  lineMovedTo_of_some (hst.elim (lineTransition_eq · hc hs rfl rfl rfl) (lineTransition_eq · hc hs rfl rfl rfl)) hr

theorem burnout_ends (hst : (s.lsv.get l).state = .burnout) (hd : burnoutOver s l = true) :
    exec (.burnoutEnd l) s = .next (lsvWork l s) ∧ LineMovedTo s l .start .burnoutEnd none ∧
      ((lsvWork l s).lsv.get l).pub.permission = false ∧ ((lsvWork l s).lsv.get l).pub.burner = true ∧
      ((lsvWork l s).lsv.get l).pub.operating = false :=
  have ht : lineTransition s l = some (.start, .burnoutEnd) := lineTransition_eq hst hc rfl rfl rfl hd
  have hpub := linePub_of_some ht hr
  ⟨exec_burnoutEnd_next ht rfl, lineMovedTo_of_some ht hr, congrArg LineRecord.permission hpub, congrArg LineRecord.burner hpub,
    congrArg LineRecord.operating hpub⟩

theorem burnout_lasts (hst : (s.lsv.get l).state = .burnout) (hd : burnoutOver s l = false) :
    exec (.burnoutEnd l) s = .next s ∧ LineKept s l :=
  have ht : lineTransition s l = none := lineTransition_eq hst hc rfl rfl rfl hd
  ⟨exec_burnoutEnd_same ht rfl, lineKept_of_none hr ht⟩

variable (hs : (s.eau.lines.get l).pub.stop = false)
include hs

theorem row_waste_low (hst : (s.lsv.get l).state = .waste) (hl : LowTemp s l) : LineMovedTo s l .inhibit .tempLow none :=
  lineMovedTo_of_some (lineTransition_eq hst hc hs (tempLow_iff.mpr hl) rfl rfl) hr

theorem row_waste (hst : (s.lsv.get l).state = .waste) (hl : ¬ LowTemp s l) : LineKept s l :=
  lineKept_of_none hr (lineTransition_eq hst hc hs (Bool.eq_false_iff.mpr (mt tempLow_iff.mp hl)) rfl rfl)

theorem inhibit_ends (hst : (s.lsv.get l).state = .inhibit) (hb : bandQualified s l (bandAfter s l) = true) :
    exec (.tempQualified l) s = .next (lsvWork l s) ∧ LineMovedTo s l .waste .tempQualified none ∧
      ((lsvWork l s).lsv.get l).pub.permission = true ∧ ((lsvWork l s).lsv.get l).pub.burner = false ∧
      ((lsvWork l s).lsv.get l).pub.operating = true :=
  have ht : lineTransition s l = some (.waste, .tempQualified) := lineTransition_eq hst hc hs rfl hb rfl
  have hpub := linePub_of_some ht hr
  ⟨exec_tempQualified_next ht rfl, lineMovedTo_of_some ht hr,
    (congrArg LineRecord.permission hpub).trans (congrArg (!·) hs), congrArg LineRecord.burner hpub,
    congrArg LineRecord.operating hpub⟩

theorem inhibit_lasts (hst : (s.lsv.get l).state = .inhibit) (hb : bandQualified s l (bandAfter s l) = false) :
    exec (.tempQualified l) s = .next s ∧ LineKept s l :=
  have ht : lineTransition s l = none := lineTransition_eq hst hc hs rfl hb rfl
  ⟨exec_tempQualified_same ht rfl, lineKept_of_none hr ht⟩

end

/-! ## The record (R97 to R101) -/

theorem ite_clamp {α : Type} [LinearOrder α] {lo hi : α} (h : lo ≤ hi) (x : α) :
    (if hi < x then hi else if x < lo then lo else x) = max lo (min hi x) :=
  iteInduction (motive := fun y => y = _)
    (fun hx => ((congrArg (max lo) (min_eq_left hx.le)).trans (max_eq_right h)).symm)
    (fun hx => ((congrArg (max lo) (min_eq_right (not_lt.mp hx))).trans ((max_comm lo x).trans (max_def_lt x lo))).symm)

theorem clampNat_eq {lo hi : Nat} (h : lo ≤ hi) (x : Nat) : clampNat lo hi x = max lo (min hi x) := ite_clamp h x
theorem clampInt_eq {lo hi : Int} (h : lo ≤ hi) (x : Int) : clampInt lo hi x = max lo (min hi x) := ite_clamp h x

theorem reduced_eq (x : Nat) : reduced s l x =
    if (s.eau.lines.get l).pub.reduction then x * (100 - (s.eau.lines.get l).pub.percent) / 100 else x := by
  unfold reduced
  rw [tsub_min]

theorem feedCapped_eq (heating : Nat) : feedCapped s l heating =
    if (s.eau.lines.get l).pub.reduction then
      min (feedTrimmed s l heating)
        (designFeedOf (s.tables.combustion.get l) * (100 - (s.eau.lines.get l).pub.percent) / 100)
    else feedTrimmed s l heating := by
  unfold feedCapped
  rw [reduced_eq]
  cases (s.eau.lines.get l).pub.reduction <;> rfl

theorem samplesAfter_of_sample {st : LineState} {x : Nat} (hc : (s.gsq.get l).pub.cycleCount ≠ (s.lsv.get l).lastCount)
    (hx : heatingSample s l st = some x) :
    samplesAfter s l st = ((s.lsv.get l).samples ++ [x]).drop ((s.lsv.get l).samples.length + 1 - 8) := by
  refine (if_neg hc).trans ?_
  rw [hx]
  exact congrArg (fun n => List.drop (n - 8) _) List.length_append

theorem samplesAfter_of_none {st : LineState}
    (h : (s.gsq.get l).pub.cycleCount ≠ (s.lsv.get l).lastCount → heatingSample s l st = none) :
    samplesAfter s l st = (s.lsv.get l).samples := by
  by_cases hc : (s.gsq.get l).pub.cycleCount = (s.lsv.get l).lastCount
  · exact if_pos hc
  · refine (if_neg hc).trans ?_
    rw [h hc]

theorem availableSteam_of_waste {st : LineState} (hst : st = .waste) : availableSteam s l st =
    if (s.gsq.get l).pub.state = .fault then 0
    else if (s.eau.lines.get l).pub.reduction then
      maxSteamOf (s.tables.combustion.get l) * (100 - (s.eau.lines.get l).pub.percent) / 100
    else maxSteamOf (s.tables.combustion.get l) :=
  (if_congr (and_iff_right hst) (reduced_eq _) rfl).trans (ite_not _ _ _)

theorem burner_iff (st : LineState) : st.burner = true ↔ st = .start ∨ st = .inhibit ∨ st = .burnout :=
  iff_of_eq_decide (by rcases st <;> rfl)
theorem operating_iff (st : LineState) : st.operating = true ↔ st = .waste ∨ st = .inhibit :=
  iff_of_eq_decide (by rcases st <;> rfl)

/-! ## The record of a work in RUN -/

section
variable (h : s.running = true)
include h

theorem lsvWork_samples : ((lsvWork l s).lsv.get l).samples = samplesAfter s l ((lsvWork l s).lsv.get l).state := by
  rw [lsvWork_line h]
  rfl
theorem lsvWork_heating : ((lsvWork l s).lsv.get l).pub.heating = heatingValue s l ((lsvWork l s).lsv.get l).samples := by
  rw [lsvWork_line h]
  rfl
theorem lsvWork_pub {α : Type} (f : LineRecord → α) : f ((lsvWork l s).lsv.get l).pub = f (lineRecord s l
    ((lsvWork l s).lsv.get l).state ((lsvWork l s).lsv.get l).cause ((lsvWork l s).lsv.get l).pub.heating) := by
  rw [lsvWork_line h]
  rfl

theorem lsvWork_permission : ((lsvWork l s).lsv.get l).pub.permission = true ↔
    ((lsvWork l s).lsv.get l).state = .waste ∧ (s.eau.lines.get l).pub.stop = false :=
  (iff_of_eq (lsvWork_pub h (LineRecord.permission · = true))).trans
    (Bool.and_eq_true_iff.trans (and_congr beq_iff_eq (iff_of_eq (Bool.not_eq_true' _))))

theorem lsvWork_burner : ((lsvWork l s).lsv.get l).pub.burner = true ↔ ((lsvWork l s).lsv.get l).state = .start ∨
    ((lsvWork l s).lsv.get l).state = .inhibit ∨ ((lsvWork l s).lsv.get l).state = .burnout :=
  (iff_of_eq (lsvWork_pub h (LineRecord.burner · = true))).trans (burner_iff _)

theorem lsvWork_operating : ((lsvWork l s).lsv.get l).pub.operating = true ↔
    ((lsvWork l s).lsv.get l).state = .waste ∨ ((lsvWork l s).lsv.get l).state = .inhibit :=
  (iff_of_eq (lsvWork_pub h (LineRecord.operating · = true))).trans (operating_iff _)

theorem lsvWork_unfed (hst : ((lsvWork l s).lsv.get l).state ≠ .waste) :
    ((lsvWork l s).lsv.get l).pub.strokes = 0 ∧ ((lsvWork l s).lsv.get l).pub.available = 0 :=
  ⟨(lsvWork_pub h LineRecord.strokes).trans (if_neg hst),
    (lsvWork_pub h LineRecord.available).trans (if_neg fun hw => hst hw.1)⟩

end

end

/-- Settles O34: by the row that `lineTransition` takes, and by the record of `lineAfter`. -/
theorem lineWorkTransitions : Obligations.LineWorkTransitions := by
  refine ⟨fun l s hr => ?_, fun l s hr => ?_, lineTripCause_iff, usable_iff, fun l s hr => ?_⟩
  · intro v c p w moved kept low stop qualified ended
    exact ⟨(lsvWork_bandSince hr).trans (if_congr (Bool.and_eq_true_iff.trans (and_congr_right' decide_eq_true_iff)) rfl rfl),
      lsvWork_qualified hr, row_trip hr, (row_none hr · fun _ _ _ _ => rfl), fun hc => ⟨row_stop hr hc,
        fun hst hs => ⟨row_waste_low hr hc hs hst, row_waste hr hc hs hst⟩,
        fun hst hs => ⟨fun hq => inhibit_ends hr hc hs hst ((held_iff hr).mpr hq),
          fun hq => inhibit_lasts hr hc hs hst (Bool.eq_false_iff.mpr (mt (held_iff hr).mp hq))⟩,
        fun hst => ⟨fun he => burnout_ends hr hc hst (burnoutOver_iff.mpr he),
          fun he => burnout_lasts hr hc hst (Bool.eq_false_iff.mpr (mt burnoutOver_iff.mp he))⟩, row_idle hr hc⟩⟩
  · have hw := lsvWork_config hr l
    have hsame (p : Prop) [Decidable p] : (.next (if p then lsvWork l s else s) : Host.Outcome State Fault Refusal) = .next s :=
      congrArg Host.Outcome.next (hw.symm ▸ ite_self _)
    exact ⟨hw, hsame _, hsame _⟩
  · intro v c steam g e y r trim sample sampled f1 f2 f3
    refine ⟨congrArg Lsv.lastCount (lsvWork_line hr), fun h => (lsvWork_samples hr).trans ?_,
      fun hn => (lsvWork_samples hr).trans ?_, fun h => (lsvWork_heating hr).trans (if_pos h),
      fun h => (lsvWork_heating hr).trans (if_neg h), fun hst => (lsvWork_pub hr LineRecord.strokes).trans ?_,
      lsvWork_unfed hr,
      fun hst => (lsvWork_pub hr LineRecord.available).trans ?_, lsvWork_pub hr LineRecord.steamSetPoint,
      lsvWork_pub hr LineRecord.o2SetPoint, lsvWork_permission hr, lsvWork_burner hr, lsvWork_operating hr⟩
    · exact samplesAfter_of_sample h.1 ((if_pos h.2).trans (congrArg some (clampNat_eq (by decide) _)))
    · exact samplesAfter_of_none fun hc => if_neg fun hsample => hn ⟨hc, hsample⟩
    · exact (if_pos hst).trans
        (congrArg (fun f => if massOf c = 0 then 0 else min 120 (roundHalfUp f (massOf c))) (feedCapped_eq r.heating))
    · exact availableSteam_of_waste hst

end Machine
end Sys2Proof
end

section
/-! SUPPORT. The work of a loop: its inputs (R38, R40, R46), its effective mode (R45) and the velocity form (R41 to R44). -/

namespace Sys2Proof
namespace Machine

theorem lpeWork_run {s : State} (h : s.running = true) : lpeWork s = s.withLpe
    { loops := tabulate 12 fun i => loopWork (s.tables.loops.get i) (loopInputs s i) (s.lpe.loops.get i) } := if_pos h
theorem lpeWork_config {s : State} (h : s.running = false) : lpeWork s = s := if_neg (Bool.eq_false_iff.mp h)

theorem lpeWork_loop {s : State} (h : s.running = true) (i : Fin 12) : (lpeWork s).lpe.loops.get i =
    loopWork (s.tables.loops.get i) (loopInputs s i) (s.lpe.loops.get i) := by
  rw [lpeWork_run h]
  exact tabulate_get _ i

/-! ## The modes (R45 to R48) -/

/-- The work of a loop, its effective mode given. -/
def loopWorkIn (e : LoopEntry) (x : LoopInputs) (r : LoopRecord) : EffectiveMode → LoopRecord
  | .off =>
    { operator := .auto, mode := .off, u := limitOut e (outMinOf e), r := 0, ePrev := none, published := limitOut e (outMinOf e) }
  | .track =>
    { r with mode := .track, u := limitOut e (x.tracked.getD 0), r := 0, ePrev := none, published := limitOut e (x.tracked.getD 0) }
  | .hold =>
    if x.notOperating then { r with mode := .hold, u := outMinOf e, r := 0, ePrev := none, published := outMinOf e }
    else { r with mode := .hold, r := 0, ePrev := none, published := limitOut e (r.u + x.term) }
  | .manual => { r with mode := .manual, r := 0, ePrev := none, published := r.u }
  | .auto => loopAuto e x r

/-- The mode an operator's choice comes to. -/
def modeOf : OperatorMode → EffectiveMode
  | .manual => .manual
  | .auto => .auto

section
variable {e : LoopEntry} {x : LoopInputs} {r : LoopRecord}

theorem loopWork_of_mode {m : EffectiveMode} (h : effectiveMode e x r = m) : loopWork e x r = loopWorkIn e x r m :=
  congrArg (loopWorkIn e x r) h

theorem effectiveMode_off (h : inService e = false) : effectiveMode e x r = .off := if_pos (Bool.eq_false_iff.mp h)

section
variable (h : inService e = true)
include h

theorem effectiveMode_track {v : Nat} (ht : x.tracked = some v) : effectiveMode e x r = .track :=
  (if_neg (not_not.mpr h)).trans (if_pos (congrArg Option.isSome ht))

variable (ht : x.tracked = none)
include ht

theorem effectiveMode_hold (hh : x.hold = true) : effectiveMode e x r = .hold :=
  (if_neg (not_not.mpr h)).trans ((if_neg (Bool.eq_false_iff.mp (congrArg Option.isSome ht))).trans (if_pos hh))

theorem effectiveMode_operator (hh : x.hold = false) {m : OperatorMode} (hm : r.operator = m) : effectiveMode e x r = modeOf m :=
  (if_neg (not_not.mpr h)).trans ((if_neg (Bool.eq_false_iff.mp (congrArg Option.isSome ht))).trans
    ((if_neg (Bool.eq_false_iff.mp hh)).trans (congrArg modeOf hm)))

end

/-! ## The velocity form (R42, R43) -/

theorem clamp_elim {lo hi : Int} (h : lo ≤ hi) (q : Int) {P : Prop} (hin : max lo (min hi q) = q → lo ≤ q → q ≤ hi → P)
    (habove : max lo (min hi q) = hi → hi < q → P) (hbelow : max lo (min hi q) = lo → q < lo → P) : P := by
  rcases lt_or_ge hi q with hq | hq
  · exact habove ((congrArg (max lo) (min_eq_left hq.le)).trans (max_eq_right h)) hq
  · rw [min_eq_right hq] at hin hbelow
    exact (lt_or_ge q lo).elim (fun hl => hbelow (max_eq_left hl.le) hl) fun hl => hin (max_eq_right hl) hl hq

theorem succ_mul_le_of_lt {a q m d : Int} (hm : 0 ≤ m) (hd : 0 ≤ d) (h : a < q) : (a + 1) * d ≤ q * d + m :=
  (Int.mul_le_mul_of_nonneg_right h hd).trans (Int.le_add_of_nonneg_right hm)

theorem mul_add_lt_of_lt {b q m d : Int} (hm : 0 ≤ m) (hlt : m < d) (h : q < b) : q * d + m < b * d :=
  (Int.add_lt_add_left hlt _).trans_le ((add_one_mul q d).symm.trans_le (Int.mul_le_mul_of_nonneg_right h (hm.trans hlt.le)))

theorem rest_eq_emod (t d : Int) : t - t / d * d = t % d := by rw [Int.emod_def, Int.mul_comm]

/-- An output and a remainder as whole steps of `d` and what is left. -/
theorem whole_steps (v r n d : Int) : v * d + r + n = (v + (n + r) / d) * d + ((n + r) - (n + r) / d * d) := by
  rw [Int.add_mul, Int.add_assoc, Int.add_assoc, add_sub_cancel, Int.add_comm r]

/-- A limited output and what is left of a sum account for it, or the sum lies beyond the limit and nothing is left. -/
def Accounted (lo hi d sum u rest : Int) : Prop :=
  (lo ≤ u ∧ u ≤ hi ∧ u * d + rest = sum ∧ 0 ≤ rest ∧ rest < d) ∨
    (u = hi ∧ rest = 0 ∧ (hi + 1) * d ≤ sum) ∨ (u = lo ∧ rest = 0 ∧ sum < lo * d)

/-- Whole steps of `d` are taken up by a limited output, the rest is kept where the limit does not act. -/
theorem limited_step_accounts {lo hi q m d sum u rest : Int} (h : lo ≤ hi) (hm : 0 ≤ m) (hlt : m < d) (hsum : sum = q * d + m)
    (hu : u = max lo (min hi q)) (hrest : rest = if u = q then m else 0) : Accounted lo hi d sum u rest :=
  clamp_elim h q
    (fun hc hlo hhi =>
      have huq := hu.trans hc
      have hr := hrest.trans (if_pos huq)
      .inl ⟨hlo.trans_eq huq.symm, huq.trans_le hhi, (congrArg₂ (fun u r => u * d + r) huq hr).trans hsum.symm,
        hm.trans_eq hr.symm, hr.trans_lt hlt⟩)
    (fun hc hq =>
      have huh := hu.trans hc
      .inr (.inl ⟨huh, hrest.trans (if_neg (huh.trans_lt hq).ne), (succ_mul_le_of_lt hm (hm.trans hlt.le) hq).trans_eq hsum.symm⟩))
    (fun hc hq =>
      have hul := hu.trans hc
      .inr (.inr ⟨hul, hrest.trans (if_neg (hq.trans_eq hul.symm).ne'), hsum.trans_lt (mul_add_lt_of_lt hm hlt hq)⟩))

end

theorem clampNat_le {lo hi : Nat} (h : lo ≤ hi) (x : Nat) : clampNat lo hi x ≤ hi := by
  rw [clampNat_eq h]
  exact max_le h (min_le_left _ _)

theorem le_clampNat {lo hi : Nat} (h : lo ≤ hi) (x : Nat) : lo ≤ clampNat lo hi x := by
  rw [clampNat_eq h]
  exact le_max_left _ _

theorem tiOf_pos (b : Bank) (e : LoopEntry) : 0 < tiOf b e :=
  Int.natCast_pos.mpr ((Nat.lt_of_lt_of_le (by decide) (le_clampNat (lo := 4) (hi := 50) (by decide) b.ring.tCyc.toNat)).trans_le
    (le_clampNat ((clampNat_le (by decide) _).trans (by decide)) _))

theorem outMin_le_outMax_of_out {e : LoopEntry} (h : inService e = false) : outMinOf e ≤ outMaxOf e := by
  unfold outMaxOf
  refine iteInduction (motive := (outMinOf e ≤ ·)) (fun _ => le_rfl) fun hc => not_lt.mp fun hlt => hc ⟨Bool.eq_false_iff.mp h, hlt⟩

/-! ## A loop's record after a work in each mode (R42 to R48) -/

section
variable (e : LoopEntry) (x : LoopInputs) (r t : LoopRecord)

def OffRecord : Prop := t.operator = .auto ∧ t.mode = .off ∧ t.u = outMinOf e ∧ t.published = outMinOf e ∧ t.r = 0 ∧ t.ePrev = none

def TrackRecord (v : Nat) : Prop := t.operator = r.operator ∧ t.mode = .track ∧ t.r = 0 ∧ t.ePrev = none ∧ t.published = t.u ∧
  t.u = max (outMinOf e) (min (outMaxOf e) v)

def HoldRecord (stopped : Bool) : Prop := t.operator = r.operator ∧ t.mode = .hold ∧ t.r = 0 ∧ t.ePrev = none ∧
  (stopped = true → t.u = outMinOf e ∧ t.published = outMinOf e) ∧
  (stopped = false → t.u = r.u ∧ t.published = max (outMinOf e) (min (outMaxOf e) (r.u + x.term)))

def AutoRecord : Prop := t.operator = .auto ∧ t.mode = .auto ∧ t.ePrev = some (loopError e x) ∧
  t.published = max (outMinOf e) (min (outMaxOf e) (t.u + x.term)) ∧
  Accounted (outMinOf e) (outMaxOf e) (1000 * x.ti)
    (r.u * (1000 * x.ti) + r.r + loopN e x (loopError e x) (r.ePrev.getD (loopError e x))) t.u t.r

end

section
variable {e : LoopEntry} {x : LoopInputs} {r : LoopRecord} (hle : outMinOf e ≤ outMaxOf e)
include hle

theorem off_record : OffRecord e (loopWorkIn e x r .off) :=
  have hlimit : limitOut e (outMinOf e) = outMinOf e :=
    (limitOut_eq hle _).trans ((congrArg (max _) (min_eq_right hle)).trans (max_self _))
  ⟨rfl, rfl, hlimit, hlimit, rfl, rfl⟩

theorem track_record {v : Nat} (hv : x.tracked = some v) : TrackRecord e r (loopWorkIn e x r .track) v :=
  ⟨rfl, rfl, rfl, rfl, rfl, (limitOut_eq hle _).trans (congrArg (fun o => max _ (min _ ((o.getD 0 : Nat) : Int))) hv)⟩

theorem hold_record : HoldRecord e x r (loopWorkIn e x r .hold) x.notOperating := by
  unfold loopWorkIn
  rcases x.notOperating
  case true => exact ⟨rfl, rfl, rfl, rfl, fun _ => ⟨rfl, rfl⟩, fun h => (Bool.false_ne_true h.symm).elim⟩
  case false => exact ⟨rfl, rfl, rfl, rfl, fun h => (Bool.false_ne_true h).elim, fun _ => ⟨rfl, limitOut_eq hle _⟩⟩

theorem auto_record (hti : 0 < x.ti) (ho : r.operator = .auto) : AutoRecord e x r (loopAuto e x r) :=
  have hd : 0 < 1000 * x.ti := Int.mul_pos (by decide) hti
  ⟨ho, rfl, rfl, limitOut_eq hle _, limited_step_accounts hle ((Int.emod_nonneg _ hd.ne').trans_eq (rest_eq_emod _ _).symm)
    ((rest_eq_emod _ _).trans_lt (Int.emod_lt_of_pos _ hd)) (whole_steps _ _ _ _) (limitOut_eq hle _) rfl⟩

end

theorem of_mode {s : State} {i : Fin 12} (P : LoopRecord → Prop) (hr : s.running = true) {m : EffectiveMode}
    (hm : effectiveMode (s.tables.loops.get i) (loopInputs s i) (s.lpe.loops.get i) = m)
    (h : P (loopWorkIn (s.tables.loops.get i) (loopInputs s i) (s.lpe.loops.get i) m)) : P ((lpeWork s).lpe.loops.get i) :=
  (congrArg P ((lpeWork_loop hr i).trans (loopWork_of_mode hm))).mpr h

/-! ## The inputs (R38, R45, R46) -/

theorem find_finRange_eq_some {n : Nat} {f : Fin n → Bool} {k : Fin n} (hk : f k = true) (hj : ∀ j < k, f j = false) :
    (List.finRange n).find? f = some k := Fin.find?_eq_find?_finRange.symm.trans (Fin.find?_eq_some_iff.mpr ⟨hk, hj⟩)

/-- A statement about every loop is one about each of the twelve (R38). -/
theorem forall_loops {P : Fin 12 → Prop} (h0 : P 0) (h1 : P 1) (h2 : P 2) (h3 : P 3) (h4 : P 4) (h5 : P 5) (h6 : P 6) (h7 : P 7)
    (h8 : P 8) (h9 : P 9) (h10 : P 10) (h11 : P 11) (i : Fin 12) : P i :=
  (List.forall_iff_forall_mem (l := [0, 1, 2, 3, 4, 5, 6, 7, 8, 9, 10, 11])).mp
    ⟨h0, h1, h2, h3, h4, h5, h6, h7, h8, h9, h10, h11⟩ i (by revert i; decide)

/-- The line of a loop by the parity of its number; it decides nothing for loops 10 and 11. -/
def lineOfLoop (i : Fin 12) : Line := if i.val % 2 = 0 then .one else .two

section
variable (s : State) (i : Fin 12)

/-- Whether a dosing loop's line stands still, by the number of the loop. -/
def roleStopped : Bool := decide (6 ≤ i.val ∧ i.val ≤ 9) && !(s.lsv.get (lineOfLoop i)).pub.operating

theorem lineNotOperating_eq : lineNotOperating s i = roleStopped s i :=
  forall_loops (P := fun i => lineNotOperating s i = roleStopped s i)
    rfl rfl rfl rfl rfl rfl rfl rfl rfl rfl rfl rfl i

theorem lineNotOperating_iff : lineNotOperating s i = true ↔
    6 ≤ i.val ∧ i.val ≤ 9 ∧ (s.lsv.get (lineOfLoop i)).pub.operating = false := by
  rw [lineNotOperating_eq]
  exact Bool.and_eq_true_iff.trans ((and_congr decide_eq_true_iff (iff_of_eq (Bool.not_eq_true' _))).trans and_assoc)

theorem not_usable_iff (q : Quality) : (!q.usable) = true ↔ q = .stale ∨ q = .bad :=
  iff_of_eq_decide (by rcases q <;> rfl)

/-- The hold cause of the one of three jobs that a loop has. -/
def jobOf (trim urea lime x y z : Bool) : Bool := bif trim then x else bif urea then y else bif lime then z else false

theorem jobOf_iff : ∀ {a b c x y z : Bool}, (a && b || a && c || b && c) = false →
    (jobOf a b c x y z = true ↔ (a = true ∧ x = true) ∨ (b = true ∧ y = true) ∨ (c = true ∧ z = true)) := by decide

/-- The hold causes of the jobs of R46 by the number of the loop. -/
def roleHold : Bool :=
  jobOf (i.val ≤ 1) (i.val = 6 ∨ i.val = 7) (i.val = 8 ∨ i.val = 9) ((s.lsv.get (lineOfLoop i)).pub.state != .waste)
    (((s.eau.lines.get (lineOfLoop i)).inst.get 3).flag == .maintHold)
    (((s.eau.lines.get (lineOfLoop i)).inst.get 1).flag == .maintHold)

theorem jobHold_eq : jobHold s i = roleHold s i :=
  forall_loops (P := fun i => jobHold s i = roleHold s i) rfl rfl rfl rfl rfl rfl rfl rfl rfl rfl rfl rfl i

theorem jobHold_iff : jobHold s i = true ↔ (i.val ≤ 1 ∧ (s.lsv.get (lineOfLoop i)).pub.state ≠ .waste) ∨
    ((i.val = 6 ∨ i.val = 7) ∧ ((s.eau.lines.get (lineOfLoop i)).inst.get 3).flag = .maintHold) ∨
    ((i.val = 8 ∨ i.val = 9) ∧ ((s.eau.lines.get (lineOfLoop i)).inst.get 1).flag = .maintHold) :=
  (iff_of_eq (congrArg (· = true) (jobHold_eq s i))).trans <|
    (jobOf_iff (by revert i; decide)).trans <| or_congr (and_congr decide_eq_true_iff bne_iff_ne) <|
      or_congr (and_congr decide_eq_true_iff beq_iff_eq) (and_congr decide_eq_true_iff beq_iff_eq)

theorem flatten_causes {a b c d f g : Prop} : ((a ∨ b) ∨ c ∨ d ∨ f) ∨ g ↔ a ∨ b ∨ c ∨ d ∨ f ∨ g := by
  simp only [or_assoc]

/-- The computed set points of R38 by the number of the loop. -/
def roleSetPoint (c : Int) : Int :=
  if i.val ≤ 1 then ((s.lsv.get (lineOfLoop i)).pub.steamSetPoint : Int)
  else if i.val ≤ 3 then ((s.lsv.get (lineOfLoop i)).pub.o2SetPoint : Int)
  else if i.val ≤ 5 then c
  else if i.val ≤ 7 then ((s.rdu.lines.get (lineOfLoop i)).ureaSet : Int)
  else if i.val ≤ 9 then ((s.rdu.lines.get (lineOfLoop i)).limeSet : Int)
  else if i.val = 10 then (s.sdu.pubBypassSet : Int)
  else (s.sdu.pubExtractionSet : Int)

theorem computedSetPoint_eq (c : Int) : (computedSetPoint s i).getD c = roleSetPoint s i c :=
  forall_loops (P := fun i => (computedSetPoint s i).getD c = roleSetPoint s i c)
    rfl rfl rfl rfl rfl rfl rfl rfl rfl rfl rfl rfl i

/-- The feed-forward terms of R38 by the number of the loop. -/
def roleFeedForward : Int :=
  if i.val = 6 ∨ i.val = 7 then ((s.rdu.lines.get (lineOfLoop i)).ureaTerm : Int)
  else if i.val = 8 ∨ i.val = 9 then ((s.rdu.lines.get (lineOfLoop i)).limeTerm : Int)
  else if i.val = 11 then (s.sdu.pubExtractionTerm : Int)
  else 0

theorem roleTerm_eq : roleTerm s i = roleFeedForward s i :=
  forall_loops (P := fun i => roleTerm s i = roleFeedForward s i) rfl rfl rfl rfl rfl rfl rfl rfl rfl rfl rfl rfl i

end

theorem ite_eq_ite_false {α : Type} {b : Bool} {x y x' : α} (h : x = x') : 
    (if b = true then x else y) = if b = false then y else x' := by
  rcases b
  · rfl
  · exact h

theorem spConstantOf_eq (e : LoopEntry) : spConstantOf e = max (-32768) (min 65535 e.spConstant.toInt) :=
  clampInt_eq (by decide) _

section
variable {s : State} {i : Fin 12}

/-- An output record names the loop and carries its override mark. -/
def Marked (s : State) (i : Fin 12) (k : Fin 64) : Prop :=
  (s.tables.outputs.get k).source.toNat = i.val + 1 ∧ (s.otu.pub.get k).override = true

theorem marked_iff {k : Fin 64} :
    ((s.tables.outputs.get k).source.toNat == i.val + 1 && (s.otu.pub.get k).override) = true ↔ Marked s i k :=
  Bool.and_eq_true_iff.trans (and_congr_left' beq_iff_eq)

theorem trackedValue_none (h : ∀ k, ¬ Marked s i k) : trackedValue s i = none :=
  congrArg (Option.map _) (List.find?_eq_none.mpr fun k _ => mt marked_iff.mp (h k))
theorem trackedValue_first {k : Fin 64} (hk : Marked s i k) (hj : ∀ j, j < k → ¬ Marked s i j) :
    trackedValue s i = some (s.otu.pub.get k).back :=
  congrArg (Option.map _) (find_finRange_eq_some (marked_iff.mpr hk) fun j hlt => Bool.eq_false_iff.mpr (mt marked_iff.mp (hj j hlt)))

theorem setPointOf_eq {e : LoopEntry} {c : Int} (hc : spConstantOf e = c) :
    setPointOf s i e = if yes e.spSource = false then c else roleSetPoint s i c := by
  subst hc
  exact ite_eq_ite_false (computedSetPoint_eq s i _)

end

theorem holdCause_iff (s : State) (i : Fin 12) {e : LoopEntry} : holdCause s i e = true ↔
    (s.point e.pvPoint).quality = .stale ∨ (s.point e.pvPoint).quality = .bad ∨
      (i.val ≤ 1 ∧ (s.lsv.get (lineOfLoop i)).pub.state ≠ .waste) ∨
      ((i.val = 6 ∨ i.val = 7) ∧ ((s.eau.lines.get (lineOfLoop i)).inst.get 3).flag = .maintHold) ∨
      ((i.val = 8 ∨ i.val = 9) ∧ ((s.eau.lines.get (lineOfLoop i)).inst.get 1).flag = .maintHold) ∨
      6 ≤ i.val ∧ i.val ≤ 9 ∧ (s.lsv.get (lineOfLoop i)).pub.operating = false :=
  Bool.or_eq_true_iff.trans <| (or_congr (Bool.or_eq_true_iff.trans (or_congr (not_usable_iff _) (jobHold_iff s i)))
    (lineNotOperating_iff s i)).trans flatten_causes

/-- Settles O26: by the mode of R45, `limited_step_accounts` for AUTO, and the inputs read as published. -/
theorem loopWorkByEffectiveMode : Obligations.LoopWorkByEffectiveMode := by
  refine ⟨fun i s hr => ?_, fun s => ⟨?_, lpeWork_config⟩, fun i s => ?_⟩
  · intro e r t
    exact ⟨fun hs => of_mode (OffRecord e) hr (effectiveMode_off hs) (off_record (outMin_le_outMax_of_out hs)), fun hs hle =>
      ⟨fun v hv => of_mode (TrackRecord e r · v) hr (effectiveMode_track hs hv) (track_record hle hv),
        fun hv hh => of_mode (HoldRecord e (loopInputs s i) r · (lineNotOperating s i)) hr (effectiveMode_hold hs hv hh)
          (hold_record hle),
        fun hv hh ho => of_mode (· = loopWorkIn e (loopInputs s i) r .manual) hr (effectiveMode_operator hs hv hh ho) rfl,
        fun hv hh ho => of_mode (AutoRecord e (loopInputs s i) r) hr (effectiveMode_operator hs hv hh ho)
          (auto_record hle (tiOf_pos _ _) ho)⟩⟩
  · exact iteInduction (motive := fun t : State => t = { s with lpe := t.lpe }) (fun _ => rfl) fun _ => rfl
  · intro e line record dosing marked maintained notOperating constant
    exact ⟨trackedValue_none, fun k => trackedValue_first, lineNotOperating_iff s i, holdCause_iff s i,
      setPointOf_eq (spConstantOf_eq e), ite_eq_ite_false (roleTerm_eq s i)⟩

end Machine
end Sys2Proof
end

section
/-! SUPPORT. The work of a grate sequencer: the rows of R60, the state's own work, and the commands that come about inside it. -/

namespace Sys2Proof
namespace Machine

/-! ## What the rows look at (R63, R65, R73, R78) -/

theorem trusted_iff (q : Quality) : q.trusted = true ↔ q = .good ∨ q = .forced :=
  iff_of_eq_decide (by rcases q <;> rfl)

theorem imp_iff_not_or {a b : Bool} : (!a || b) = true ↔ (a = true → b = true) := by
  revert a b; decide

section
variable {s : State} {l : Line} {g : Gsq}

/-- A limit point of the line shows 1. -/
def Reads1 (s : State) (l : Line) (n : Fin 8) : Prop :=
  ((s.point ((s.tables.combustion.get l).limitPoints.get n)).quality = .good ∨
    (s.point ((s.tables.combustion.get l).limitPoints.get n)).quality = .forced) ∧
    (s.point ((s.tables.combustion.get l).limitPoints.get n)).value = 1

/-- Both limits of an actuator show reached. -/
def Clash (s : State) (l : Line) (a : Fin 4) : Prop :=
  Reads1 s l ⟨2 * a.val, by omega⟩ ∧ Reads1 s l ⟨2 * a.val + 1, by omega⟩

/-- A group that stops the feed of the line is tripped. -/
def FeedStopped (s : State) (l : Line) : Prop :=
  ∃ k : Fin 8, s.otu.pubGroups.get k = true ∧ effectIncludes (s.tables.groups.get k).feedStop l = true

/-- A pause ends in this work. -/
def CycleDue (s : State) (l : Line) (g : Gsq) : Prop :=
  (∃ ends, pauseEnd g (s.lsv.get l).pub.strokes = some ends ∧ ends ≤ s.rgi.runTime) ∧
    (s.lsv.get l).pub.permission = true ∧ 1 ≤ (s.lsv.get l).pub.strokes

/-- Every output of a step is on. -/
def StepOutputsOn (s : State) (l : Line) (e : StepEntry) : Prop :=
  ∀ j < 8, e.outputs.getLsbD j = true → ∀ k : Fin 64, (s.tables.outputs.get k).source.toNat = 16 + 8 * l.offset + j →
    (s.otu.pub.get k).source = 10000 ∧ (s.otu.pub.get k).pending = false

theorem limitReads_iff {n : Fin 8} : limitReads s l n 1 = true ↔ Reads1 s l n :=
  Bool.and_eq_true_iff.trans (and_congr (trusted_iff _) beq_iff_eq)

theorem clash_iff {a : Fin 4} :
    (limitReads s l ⟨2 * a.val, by omega⟩ 1 && limitReads s l ⟨2 * a.val + 1, by omega⟩ 1) = true ↔ Clash s l a :=
  Bool.and_eq_true_iff.trans (and_congr limitReads_iff limitReads_iff)

theorem limitConflict_first {a : Fin 4} (ha : Clash s l a) (hb : ∀ b, b < a → ¬ Clash s l b) : limitConflict s l = some a :=
  find_finRange_eq_some (clash_iff.mpr ha) fun b hlt => Bool.eq_false_iff.mpr (mt clash_iff.mp (hb b hlt))
theorem limitConflict_none (h : ∀ a, ¬ Clash s l a) : limitConflict s l = none :=
  List.find?_eq_none.mpr fun a _ => mt clash_iff.mp (h a)

theorem feedStopCause_iff : feedStopCause s l = true ↔ FeedStopped s l := any_finRange_iff fun _ => Bool.and_eq_true_iff

theorem seqHoldCause_iff : seqHoldCause s l = true ↔ FeedStopped s l ∨ s.rgi.ring ≠ .synced :=
  Bool.or_eq_true_iff.trans (or_congr feedStopCause_iff bne_iff_ne)

theorem startDue_iff : startDue s l g = true ↔ CycleDue s l g := by
  refine and_three.trans (and_congr ?_ (and_congr_right' decide_eq_true_iff))
  rcases pauseEnd g (s.lsv.get l).pub.strokes
  case none => exact iff_of_false Bool.false_ne_true not_exists_none_eq
  case some t => exact decide_eq_true_iff.trans (exists_some_eq (P := fun t => t ≤ s.rgi.runTime)).symm

theorem outputsOn_iff {e : StepEntry} : outputsOn s l e = true ↔ StepOutputsOn s l e := by
  refine List.all_eq_true.trans (forall_congr' fun j => imp_congr List.mem_range (imp_iff_not_or.trans (imp_congr_right fun _ =>
    all_finRange_iff fun k => ?_)))
  exact Bool.or_eq_true_iff.trans ((or_congr bne_iff_ne (Bool.and_eq_true_iff.trans (and_congr beq_iff_eq
    (iff_of_eq (Bool.not_eq_true' _))))).trans Classical.or_iff_not_imp_left |>.trans (imp_congr_left not_not))

theorem stopsFeeding_iff {st : LineState} : st.stopsFeeding = true ↔ st = .off ∨ st = .start ∨ st = .tripped :=
  iff_of_eq_decide (by rcases st <;> rfl)
theorem stopsFeeding_eq_false {st : LineState} (h : ¬ (st = .off ∨ st = .start ∨ st = .tripped)) : st.stopsFeeding = false :=
  Bool.eq_false_iff.mpr (mt stopsFeeding_iff.mp h)
theorem active_iff {st : SeqState} : st.active = true ↔ st = .pause ∨ st = .stepping ∨ st = .held :=
  iff_of_eq_decide (by rcases st <;> rfl)

/-! ## The rows above the state's own work (R60) -/

/-- What the first row of R60 above the own work that holds makes of a sequencer, by what the rows look at. -/
def rowOfR60 (s : State) (l : Line) (g : Gsq) (st : SeqState) (stops : Bool) (conflict : Option (Fin 4)) (feed hold : Bool) :
    Option SeqResult :=
  if stops && st.active then some (enterStopped g, [])
  else if st.active && conflict.isSome then some (enterFault g, [seqFaultEvent s l 1 ((conflict.map Fin.val).getD 0)])
  else if (st == .pause || st == .stepping) && feed then some (enterHeld g, [])
  else if st == .held && !hold then some (enterPause g s.rgi.runTime .release, [])
  else none

theorem seqOverriding_eq {st : SeqState} {stops : Bool} {conflict : Option (Fin 4)} {feed hold : Bool} (hst : g.state = st)
    (hs : (s.lsv.get l).pub.state.stopsFeeding = stops) (hc : limitConflict s l = conflict) (hf : feedStopCause s l = feed)
    (hh : seqHoldCause s l = hold) : seqOverriding s l g = rowOfR60 s l g st stops conflict feed hold := by
  subst hst hs hc hf hh
  rfl

/-- Outside PAUSE, STEPPING and HELD none of the rows holds. -/
theorem seqOverriding_none {st : SeqState} (hst : g.state = st)
    (h : ∀ stops, rowOfR60 s l g st stops (limitConflict s l) (feedStopCause s l) (seqHoldCause s l) = none) :
    seqOverriding s l g = none := (seqOverriding_eq hst rfl rfl rfl rfl).trans (h _)

theorem ite_isNone_congr {α : Type} {c : Bool} {x y : α} {o p : Option α} (h : o.isNone = p.isNone) :
    (if c then some x else o).isNone = (if c then some y else p).isNone := by
  rcases c
  case true => rfl
  case false => exact h

/-- Of the sequencer the rows look at the state alone. -/
theorem seqOverriding_isNone {g' : Gsq} {s' : State} {st : SeqState} {stops : Bool} {conflict : Option (Fin 4)} {feed hold : Bool} :
    (rowOfR60 s l g st stops conflict feed hold).isNone = (rowOfR60 s' l g' st stops conflict feed hold).isNone :=
  ite_isNone_congr (ite_isNone_congr (ite_isNone_congr (ite_isNone_congr rfl)))

/-! ## The work (R59, R60) -/

/-- What is done with the step in progress. -/
def stepWork (s : State) (l : Line) (g : Gsq) : Option (Nat × StepEntry) → SeqResult
  | some (n, e) => evaluateStep s l n e (startTimer s l e g)
  | none => (g, [])

/-- The state's own work, the state given (R60 row 5). -/
def ownWorkIn (s : State) (l : Line) (g : Gsq) : SeqState → SeqResult
  | .stopped => if (s.lsv.get l).pub.state = .waste then (enterPause g s.rgi.runTime .entry, []) else (g, [])
  | .pause => if startDue s l g then startCycle s l g else (g, [])
  | .stepping => stepWork s l g g.step
  | .held => (g, [])
  | .fault => (g, [])

theorem seqOwnWork_in {st : SeqState} (h : g.state = st) : seqOwnWork s l g = ownWorkIn s l g st := congrArg (ownWorkIn s l g) h

theorem withSeqResult_gsq (r : SeqResult) : (s.withSeqResult l r).gsq.get l = publishSeq r.1 := PerLine.get_set_same _ _ _

theorem gsqWork_config (h : s.running = false) : gsqWork l s = s := if_neg (Bool.eq_false_iff.mp h)

section
variable (hr : s.running = true)
include hr

theorem gsqWork_over {r : SeqResult} (h : seqOverriding s l (s.gsq.get l) = some r) : gsqWork l s = s.withSeqResult l r :=
  (if_pos hr).trans (congrArg (fun o => s.withSeqResult l (Option.getD o _)) h)
theorem gsqWork_own (h : seqOverriding s l (s.gsq.get l) = none) :
    gsqWork l s = s.withSeqResult l (seqOwnWork s l (s.gsq.get l)) :=
  (if_pos hr).trans (congrArg (fun o => s.withSeqResult l (Option.getD o _)) h)
theorem gsqWork_alone {st : SeqState} (hst : (s.gsq.get l).state = st) (h : seqOverriding s l (s.gsq.get l) = none) :
    gsqWork l s = s.withSeqResult l (ownWorkIn s l (s.gsq.get l) st) :=
  (gsqWork_own hr h).trans (congrArg (s.withSeqResult l) (seqOwnWork_in hst))

theorem gsqWork_stopped (hst : (s.gsq.get l).state = .stopped) : gsqWork l s =
    if (s.lsv.get l).pub.state = .waste then s.withSeqResult l (enterPause (s.gsq.get l) s.rgi.runTime .entry, [])
    else s.withSeqResult l (s.gsq.get l, []) :=
  (gsqWork_alone hr hst (seqOverriding_none hst (Bool.rec rfl rfl))).trans (apply_ite _ _ _ _)

theorem gsqWork_fault (hst : (s.gsq.get l).state = .fault) : gsqWork l s = s.withSeqResult l (s.gsq.get l, []) :=
  gsqWork_alone hr hst (seqOverriding_none hst (Bool.rec rfl rfl))

theorem gsqWork_stops
    (ha : (s.gsq.get l).state = .pause ∨ (s.gsq.get l).state = .stepping ∨ (s.gsq.get l).state = .held)
    (hs : (s.lsv.get l).pub.state = .off ∨ (s.lsv.get l).pub.state = .start ∨ (s.lsv.get l).pub.state = .tripped) :
    gsqWork l s = s.withSeqResult l (enterStopped (s.gsq.get l), []) :=
  gsqWork_over hr (if_pos (Bool.and_eq_true_iff.mpr ⟨stopsFeeding_iff.mpr hs, active_iff.mpr ha⟩))

theorem gsqWork_conflict {a : Fin 4}
    (ha : (s.gsq.get l).state = .pause ∨ (s.gsq.get l).state = .stepping ∨ (s.gsq.get l).state = .held)
    (hs : ¬ ((s.lsv.get l).pub.state = .off ∨ (s.lsv.get l).pub.state = .start ∨ (s.lsv.get l).pub.state = .tripped))
    (hc : Clash s l a) (hb : ∀ b, b < a → ¬ Clash s l b) :
    gsqWork l s = s.withSeqResult l (enterFault (s.gsq.get l), [seqFaultEvent s l 1 a.val]) :=
  gsqWork_over hr <| (seqOverriding_eq rfl (stopsFeeding_eq_false hs) (limitConflict_first hc hb) rfl rfl).trans <|
    (if_neg Bool.false_ne_true).trans (if_pos (Bool.and_eq_true_iff.mpr ⟨active_iff.mpr ha, rfl⟩))

section
variable (hs : ¬ ((s.lsv.get l).pub.state = .off ∨ (s.lsv.get l).pub.state = .start ∨ (s.lsv.get l).pub.state = .tripped))
  (hc : ∀ a, ¬ Clash s l a)
include hs hc

theorem gsqWork_feedStop (hst : (s.gsq.get l).state = .pause ∨ (s.gsq.get l).state = .stepping) (hf : FeedStopped s l) :
    gsqWork l s = s.withSeqResult l (enterHeld (s.gsq.get l), []) :=
  gsqWork_over hr (hst.elim
    (seqOverriding_eq · (stopsFeeding_eq_false hs) (limitConflict_none hc) (feedStopCause_iff.mpr hf) rfl)
    (seqOverriding_eq · (stopsFeeding_eq_false hs) (limitConflict_none hc) (feedStopCause_iff.mpr hf) rfl))

variable (hst : (s.gsq.get l).state = .held)
include hst

theorem gsqWork_release (hf : ¬ FeedStopped s l) (hrg : s.rgi.ring = .synced) :
    gsqWork l s = s.withSeqResult l (enterPause (s.gsq.get l) s.rgi.runTime .release, []) :=
  gsqWork_over hr (seqOverriding_eq hst (stopsFeeding_eq_false hs) (limitConflict_none hc) rfl
    (Bool.eq_false_iff.mpr fun h => (seqHoldCause_iff.mp h).elim hf (· hrg)))

theorem gsqWork_held (hh : FeedStopped s l ∨ s.rgi.ring ≠ .synced) : gsqWork l s = s.withSeqResult l (s.gsq.get l, []) :=
  gsqWork_alone hr hst (seqOverriding_eq hst (stopsFeeding_eq_false hs) (limitConflict_none hc) rfl (seqHoldCause_iff.mpr hh))

end

end

/-! ## Demands are on in STEPPING alone (R63, R72) -/

/-- A result with a demand on in STEPPING alone. -/
def Quiet (r : SeqResult) : Prop := r.1.state ≠ .stepping → r.1.demands = 0

/-- A row above the own work, if it holds, leaves the sequencer out of STEPPING with no demand. -/
def Still (o : Option SeqResult) : Prop := ∀ r, o = some r → r.1.state ≠ .stepping ∧ r.1.demands = 0

theorem ite_of {α : Type} {P : α → Prop} {c : Prop} [Decidable c] {x y : α} (hx : P x) (hy : P y) : P (if c then x else y) :=
  iteInduction (fun _ => hx) fun _ => hy

theorem still_some {r : SeqResult} (h : r.1.state ≠ .stepping) (hd : r.1.demands = 0) : Still (some r) :=
  fun _ hr => Option.some.inj hr ▸ ⟨h, hd⟩
theorem seqOverriding_still : Still (seqOverriding s l g) :=
  ite_of (still_some SeqState.noConfusion rfl) <| ite_of (still_some SeqState.noConfusion rfl) <|
    ite_of (still_some SeqState.noConfusion rfl) <| ite_of (still_some SeqState.noConfusion rfl) fun r h =>
      (Option.some_ne_none r h.symm).elim

theorem startStep_quiet (n : Fin 16) : Quiet (startStep s l n g) := ite_of (P := Quiet) (absurd rfl) fun _ => rfl
theorem startCycle_quiet : Quiet (startCycle s l g) := ite_of (P := Quiet) (startStep_quiet _) fun _ => rfl
theorem completeStep_quiet {e : StepEntry} : Quiet (completeStep s l e g) := by
  unfold completeStep
  rcases nextStepOf e
  case none => exact fun _ => rfl
  case some n => exact startStep_quiet n
theorem evaluateStep_quiet {n : Nat} {e : StepEntry} (h : g.state = .stepping) : Quiet (evaluateStep s l n e g) := by
  unfold evaluateStep
  rcases g.timerStart
  case none => exact absurd h
  case some t => exact ite_of (P := Quiet) completeStep_quiet (ite_of (P := Quiet) (fun _ => rfl) (absurd h))
theorem startTimer_state {e : StepEntry} : (startTimer s l e g).state = g.state :=
  ite_of (P := fun x : Gsq => x.state = g.state) rfl rfl
theorem stepWork_quiet {o : Option (Nat × StepEntry)} (h : g.state = .stepping) (hg : Quiet (g, [])) : Quiet (stepWork s l g o) := by
  rcases o
  case none => exact hg
  case some p => exact evaluateStep_quiet (startTimer_state.trans h)

theorem ownWorkIn_quiet {st : SeqState} (hst : g.state = st) (hg : Quiet (g, [])) : Quiet (ownWorkIn s l g st) := by
  rcases st
  case stopped => exact ite_of (P := Quiet) (fun _ => rfl) hg
  case pause => exact ite_of (P := Quiet) startCycle_quiet hg
  case stepping => exact stepWork_quiet hst hg
  case held => exact hg
  case fault => exact hg

theorem ownWorkIn_starts {st : SeqState} (h : (ownWorkIn s l g st).1.state = .stepping) (hg : g.state ≠ .stepping)
    (hs : st ≠ .stepping) : st = .pause ∧ startDue s l g = true := by
  rcases st
  case stopped => exact absurd h (ite_of (P := fun r : SeqResult => r.1.state ≠ .stepping) SeqState.noConfusion hg)
  case pause => exact ⟨rfl, by_contra fun hd => hg ((congrArg (fun r : SeqResult => r.1.state) (if_neg hd)).symm.trans h)⟩
  case stepping => exact absurd rfl hs
  case held => exact absurd h hg
  case fault => exact absurd h hg

theorem gsqWork_starts (hr : s.running = true) (h : ((gsqWork l s).gsq.get l).state = .stepping)
    (hg : (s.gsq.get l).state ≠ .stepping) : (s.gsq.get l).state = .pause ∧ startDue s l (s.gsq.get l) = true := by
  rcases ho : seqOverriding s l (s.gsq.get l)
  case some r =>
    rw [gsqWork_over hr ho, withSeqResult_gsq] at h
    exact absurd h (seqOverriding_still r ho).1
  case none =>
    rw [gsqWork_alone hr rfl ho, withSeqResult_gsq] at h
    exact ownWorkIn_starts h hg hg

theorem gsqWork_quiet (hr : s.running = true) (hg : (s.gsq.get l).state ≠ .stepping → (s.gsq.get l).demands = 0)
    (h : ((gsqWork l s).gsq.get l).state ≠ .stepping) :
    ((gsqWork l s).gsq.get l).demands = 0 ∧ ((gsqWork l s).gsq.get l).pub.demands = 0 := by
  rcases ho : seqOverriding s l (s.gsq.get l)
  case some r =>
    rw [gsqWork_over hr ho, withSeqResult_gsq]
    exact and_self_iff.mpr (seqOverriding_still r ho).2
  case none =>
    rw [gsqWork_alone hr rfl ho, withSeqResult_gsq] at h ⊢
    exact and_self_iff.mpr (ownWorkIn_quiet rfl hg h)

/-! ## The state's own work, and the commands that come about inside it (R63 to R68) -/

theorem ownWork_iff : ownWork s l = true ↔ s.running = true ∧ seqOverriding s l (s.gsq.get l) = none :=
  Bool.and_eq_true_iff.trans (and_congr_right' Option.isNone_iff_eq_none)

/-- The state with the step timer of a sequencer running from `t`. -/
def timedAt (s : State) (l : Line) (t : Nat) : State :=
  { s with gsq := s.gsq.set l { s.gsq.get l with timerStart := some t } }

theorem timedAt_gsq {t : Nat} : (timedAt s l t).gsq.get l = { s.gsq.get l with timerStart := some t } := PerLine.get_set_same _ _ _

theorem timedAt_withSeqResult {t : Nat} (r : SeqResult) : (timedAt s l t).withSeqResult l r = s.withSeqResult l r := by
  rcases l <;> rfl

theorem ownWork_timedAt {t : Nat} : ownWork (timedAt s l t) l = ownWork s l := by
  unfold ownWork
  rw [timedAt_gsq]
  exact congrArg (s.running && ·) seqOverriding_isNone

section
variable {n t : Nat} {e : StepEntry}

theorem startTimer_eq
    (h : g.timerStart = none ∧ StepOutputsOn s l e ∧ t = s.rgi.runTime ∨ g.timerStart = some t) :
    startTimer s l e g = { g with timerStart := some t } := by
  obtain ⟨hn, hon, rfl⟩ | ht := h
  · exact if_pos (Bool.and_eq_true_iff.mpr ⟨congrArg Option.isNone hn, outputsOn_iff.mpr hon⟩)
  · rw [← ht]
    exact if_neg fun hc => Bool.false_ne_true ((congrArg Option.isNone ht).symm.trans (Bool.and_elim_left hc))

theorem stepWork_waiting (hn : g.timerStart = none) (h : ¬ StepOutputsOn s l e) : stepWork s l g (some (n, e)) = (g, []) := by
  refine (congrArg (evaluateStep s l n e) (if_neg fun hc => h (outputsOn_iff.mp (Bool.and_elim_right hc)))).trans ?_
  unfold evaluateStep
  rw [hn]

theorem runningStep_timedAt (hst : (s.gsq.get l).state = .stepping) (hstep : (s.gsq.get l).step = some (n, e)) :
    runningStep ((timedAt s l t).gsq.get l) = some (n, e) :=
  (congrArg runningStep timedAt_gsq).trans ((if_pos hst).trans hstep)

variable (ho : ownWork s l = true)
include ho

theorem gsqWork_in {st : SeqState} (hst : (s.gsq.get l).state = st) :
    gsqWork l s = s.withSeqResult l (ownWorkIn s l (s.gsq.get l) st) :=
  (ownWork_iff.mp ho).elim (gsqWork_alone · hst)

theorem gsqWork_due (hst : (s.gsq.get l).state = .pause) (hd : CycleDue s l (s.gsq.get l)) :
    execStrokeCycleStart l s = .next (gsqWork l s) :=
  congrArg Host.Outcome.next ((if_pos (and_three.mpr ⟨ho, beq_iff_eq.mpr hst, startDue_iff.mpr hd⟩)).trans
    ((gsqWork_in ho hst).trans (congrArg (s.withSeqResult l) (if_pos (startDue_iff.mpr hd)))).symm)

theorem gsqWork_paused (hst : (s.gsq.get l).state = .pause) (hd : ¬ CycleDue s l (s.gsq.get l)) :
    gsqWork l s = s.withSeqResult l (s.gsq.get l, []) :=
  (gsqWork_in ho hst).trans (congrArg (s.withSeqResult l) (if_neg (mt startDue_iff.mp hd)))

variable (hst : (s.gsq.get l).state = .stepping)
include hst

theorem gsqWork_stepping {o : Option (Nat × StepEntry)} (h : (s.gsq.get l).step = o) :
    gsqWork l s = s.withSeqResult l (stepWork s l (s.gsq.get l) o) :=
  (gsqWork_in ho hst).trans (congrArg (fun o => s.withSeqResult l (stepWork s l (s.gsq.get l) o)) h)

variable (hstep : (s.gsq.get l).step = some (n, e))
include hstep

theorem gsqWork_waiting (hn : (s.gsq.get l).timerStart = none) (h : ¬ StepOutputsOn s l e) :
    gsqWork l s = s.withSeqResult l (s.gsq.get l, []) :=
  (gsqWork_stepping ho hst hstep).trans (congrArg (s.withSeqResult l) (stepWork_waiting hn h))

variable (h : (s.gsq.get l).timerStart = none ∧ StepOutputsOn s l e ∧ t = s.rgi.runTime ∨ (s.gsq.get l).timerStart = some t)
include h

/-- What the rest of the work is, once the timer runs from `t`. -/
theorem gsqWork_timed {r : SeqResult} (hr : evaluateStep s l n e { s.gsq.get l with timerStart := some t } = r) :
    gsqWork l s = s.withSeqResult l r :=
  (gsqWork_stepping ho hst hstep).trans (congrArg (s.withSeqResult l) ((congrArg (evaluateStep s l n e) (startTimer_eq h)).trans hr))

theorem gsqWork_met (hm : conditionMet s l e (stepTimer s t) = true) :
    execStepComplete l (timedAt s l t) = .next (gsqWork l s) := by
  refine congrArg Host.Outcome.next ((congrArg₂ (completeIn (timedAt s l t) l) (runningStep_timedAt hst hstep)
    (congrArg Gsq.timerStart timedAt_gsq)).trans ((if_pos (Bool.and_eq_true_iff.mpr ⟨ownWork_timedAt.trans ho, hm⟩)).trans ?_))
  rw [timedAt_gsq, timedAt_withSeqResult]
  exact (gsqWork_timed ho hst hstep h (if_pos hm)).symm

variable (hm : ¬ conditionMet s l e (stepTimer s t) = true)
include hm

theorem gsqWork_late (hl : stepTimeoutOf e ≤ stepTimer s t) :
    execStepTimeout l (timedAt s l t) = .next (gsqWork l s) := by
  refine congrArg Host.Outcome.next ((congrArg₂ (timeoutIn (timedAt s l t) l) (runningStep_timedAt hst hstep)
    (congrArg Gsq.timerStart timedAt_gsq)).trans ((if_pos (and_three.mpr ⟨ownWork_timedAt.trans ho,
      (Bool.not_eq_true' _).mpr (Bool.eq_false_iff.mpr hm), decide_eq_true hl⟩)).trans ?_))
  rw [timedAt_gsq, timedAt_withSeqResult]
  exact (gsqWork_timed ho hst hstep h ((if_neg hm).trans (if_pos hl))).symm

theorem gsqWork_early (hl : ¬ stepTimeoutOf e ≤ stepTimer s t) :
    gsqWork l s = s.withSeqResult l ({ s.gsq.get l with timerStart := some t }, []) :=
  gsqWork_timed ho hst hstep h ((if_neg hm).trans (if_neg hl))

end

end

/-! ## O31 -/

/-- Settles O31: a work is the first row that holds, else the state's own work; each says what becomes of the sequencer. -/
theorem feedingNeedsPermission : Obligations.FeedingNeedsPermission := by
  refine ⟨fun l s hr => ?_, fun l s hr => ?_, fun l s => gsqWork_config, fun l s ho => ?_⟩
  · intro g h
    exact ⟨fun hh hg => (gsqWork_starts hr hh hg).imp_right fun hd => (startDue_iff.mp hd).2, fun hg => gsqWork_quiet hr hg.1⟩
  · intro g line active stops reads1 conflict feedStop becomes
    exact ⟨gsqWork_stops hr, fun _ => gsqWork_conflict hr, fun hst hs hc => gsqWork_feedStop hr hs hc hst,
      fun hst hs hc => ⟨gsqWork_release hr hs hc hst, gsqWork_held hr hs hc hst⟩, gsqWork_stopped hr, gsqWork_fault hr⟩
  · intro g record becomes due
    refine ⟨fun hst => ⟨gsqWork_due ho hst, gsqWork_paused ho hst⟩, fun hst => gsqWork_stepping ho hst, fun n e hst hstep => ?_⟩
    intro on timed begun
    refine ⟨gsqWork_waiting ho hst hstep, fun t h => ?_⟩
    intro met late
    exact ⟨gsqWork_met ho hst hstep h, gsqWork_late ho hst hstep h, gsqWork_early ho hst hstep h⟩

end Machine
end Sys2Proof
end

section
/-! SUPPORT. What a work of the OTU writes: the rows of R162 as they stand, the window and the conflicts. -/

namespace Sys2Proof
namespace Machine

/-! ## Sources and overrides (R159, R171) -/

theorem toList_eq_map_get {α : Type} {n : Nat} (v : Vector α n) : v.toList = (List.finRange n).map v.get :=
  (congrArg Vector.toList Vector.ofFn_getElem.symm).trans (Vector.toList_ofFn.trans List.ofFn_eq_map)

theorem find_finRange_isSome {n : Nat} {f : Fin n → Bool} : ((List.finRange n).find? f).isSome = true ↔ ∃ j, f j = true :=
  List.find?_isSome.trans (exists_congr fun j => and_iff_right (List.mem_finRange j))
theorem find_finRange_eq_none {n : Nat} {f : Fin n → Bool} (h : ∀ j, ¬ f j = true) : (List.finRange n).find? f = none :=
  List.find?_eq_none.mpr fun j _ => h j

theorem clampNat_zero {hi x : Nat} : clampNat 0 hi x = min hi x := (clampNat_eq (Nat.zero_le _) x).trans (Nat.zero_max _)

/-- Whether an override slot names a record. -/
def namesRecord (k : Fin 64) (o : OverrideEntry) : Bool := clampNat 0 64 o.record.toNat == k.val + 1

theorem namesRecord_iff {k : Fin 64} {o : OverrideEntry} : namesRecord k o = true ↔ min 64 o.record.toNat = k.val + 1 :=
  beq_iff_eq.trans (iff_of_eq (congrArg (· = k.val + 1) clampNat_zero))

theorem overrideFor_of {e : GroupEntry} {k : Fin 64} {o : Option (Fin 4)}
    (h : ((List.finRange 4).find? fun m => namesRecord k (e.overrides.get m)) = o) :
    overrideFor e k = (o.map e.overrides.get).map fun o => clampNat 0 10000 o.value.toNat :=
  congrArg (Option.map _) ((congrArg (List.find? (namesRecord k)) (toList_eq_map_get _)).trans
    (List.find?_map.trans (congrArg (Option.map e.overrides.get) h)))

theorem overrideFor_first {e : GroupEntry} {k : Fin 64} {m : Fin 4} (hm : min 64 (e.overrides.get m).record.toNat = k.val + 1)
    (hj : ∀ j < m, ¬ min 64 (e.overrides.get j).record.toNat = k.val + 1) :
    overrideFor e k = some (min 10000 (e.overrides.get m).value.toNat) :=
  (overrideFor_of (find_finRange_eq_some (namesRecord_iff.mpr hm) fun j hlt => Bool.eq_false_iff.mpr fun h =>
    hj j hlt (namesRecord_iff.mp h))).trans (congrArg some clampNat_zero)

theorem overrideFor_none {e : GroupEntry} {k : Fin 64} (h : ∀ m, ¬ min 64 (e.overrides.get m).record.toNat = k.val + 1) :
    overrideFor e k = none := overrideFor_of (find_finRange_eq_none fun m hm => h m (namesRecord_iff.mp hm))

theorem sourceValue_loop (s : State) (i : Fin 12) : sourceValue s (i.val + 1) = (s.lpe.loops.get i).published.toNat :=
  dif_pos ⟨Nat.le_add_left 1 _, i.isLt⟩

section
variable {s : State} {c : Nat}

theorem sourceValue_one (h : 16 ≤ c ∧ c ≤ 23) : sourceValue s c = onOff (s.gsq.one.pub.demands.getLsbD (c - 16)) :=
  (dif_neg fun hc => Nat.not_lt.mpr (h.1.trans hc.2) (by decide)).trans (if_pos h)
theorem sourceValue_two (h : 24 ≤ c ∧ c ≤ 31) : sourceValue s c = onOff (s.gsq.two.pub.demands.getLsbD (c - 24)) :=
  (dif_neg fun hc => Nat.not_lt.mpr (h.1.trans hc.2) (by decide)).trans
    ((if_neg fun hc => Nat.not_lt.mpr (h.1.trans hc.2) (by decide)).trans (if_pos h))

end

theorem within {a : Nat} (j : Fin 8) : a ≤ a + j.val ∧ a + j.val ≤ a + 7 :=
  ⟨Nat.le_add_right a j.val, Nat.add_le_add_left (Nat.le_of_lt_succ j.isLt) a⟩

theorem sourceValue_line (s : State) (l : Line) :
    (∀ j : Fin 8, sourceValue s (16 + 8 * l.offset + j.val) = onOff ((s.gsq.get l).pub.demands.getLsbD j.val)) ∧
      sourceValue s (32 + l.offset) = onOff (s.lsv.get l).pub.burner ∧
      sourceValue s (48 + l.offset) = (s.rdu.lines.get l).carbon := by
  rcases l
  · exact ⟨fun j => (sourceValue_one (within j)).trans (congrArg (fun n => onOff (s.gsq.one.pub.demands.getLsbD n))
      (Nat.add_sub_cancel_left 16 j.val)), rfl, rfl⟩
  · exact ⟨fun j => (sourceValue_two (within j)).trans (congrArg (fun n => onOff (s.gsq.two.pub.demands.getLsbD n))
      (Nat.add_sub_cancel_left 24 j.val)), rfl, rfl⟩

/-! ## What decides a row (R162), in a state whose trips are evaluated -/

section
variable {u : State} {k m : Fin 64} {q : Fin 16}

/-- A TRIPPED group affects a record. -/
def tripsRecord (groups : Vector TripGroup 8) (b : Bank) (k : Fin 64) (g : Fin 8) : Prop :=
  (groups.get g).tripped = true ∧ (b.groups.get g).affected.getLsbD k.val = true

theorem tripDecides_isSome : (tripDecides u k).isSome = true ↔ ∃ g, tripsRecord u.otu.groups u.tables k g :=
  find_finRange_isSome.trans (exists_congr fun _ => Bool.and_eq_true_iff)

theorem tripDecides_first {g : Fin 8} (hg : tripsRecord u.otu.groups u.tables k g)
    (hh : ∀ h < g, ¬ tripsRecord u.otu.groups u.tables k h) : tripDecides u k = some g :=
  find_finRange_eq_some (Bool.and_eq_true_iff.mpr hg) fun h hlt => Bool.eq_false_iff.mpr fun ht => hh h hlt (Bool.and_eq_true_iff.mp ht)
theorem tripDecides_none (h : ∀ g, ¬ tripsRecord u.otu.groups u.tables k g) : tripDecides u k = none :=
  find_finRange_eq_none fun g ht => h g (Bool.and_eq_true_iff.mp ht)

theorem upperRow_passive (h : u.otu.mode = .passive ∨ ∃ g, tripsRecord u.otu.groups u.tables k g) :
    upperRow u k = some .passive :=
  if_pos (h.imp_right tripDecides_isSome.mpr)

theorem upperRow_hold (h : ¬ (u.otu.mode = .passive ∨ ∃ g, tripsRecord u.otu.groups u.tables k g)) (hm : u.otu.mode = .hold) :
    upperRow u k = some .hold := (if_neg fun hp => h (hp.imp_right tripDecides_isSome.mp)).trans (if_pos hm)

theorem upperRow_none (h : ¬ (u.otu.mode = .passive ∨ ∃ g, tripsRecord u.otu.groups u.tables k g)) (hm : u.otu.mode = .normal) :
    upperRow u k = none := (if_neg fun hp => h (hp.imp_right tripDecides_isSome.mp)).trans (if_neg (hm.trans_ne (by decide)))

theorem rows_isNone_iff (m : OutputMode) (d : Option (Fin 8)) :
    (if m = .passive ∨ d.isSome then some OutRow.passive else if m = .hold then some .hold else none).isNone =
      (m == .normal && d.isNone) := by
  rcases m <;> rcases d <;> rfl

theorem not_and_iff {a b : Bool} : ¬ (a && b) = true ↔ (a = true → b = false) := by
  revert a b; decide

/-- Neither row 1 nor row 2 decides a record. -/
def Undecided (u : State) (groups : Vector TripGroup 8) (k : Fin 64) : Prop := u.otu.mode = .normal ∧
  ∀ g, (groups.get g).tripped = true → (u.tables.groups.get g).affected.getLsbD k.val = false

theorem upperRow_isNone : (upperRow u k).isNone = true ↔ Undecided u u.otu.groups k :=
  (iff_of_eq (congrArg (· = true) (rows_isNone_iff _ (tripDecides u k)))).trans (Bool.and_eq_true_iff.trans (and_congr beq_iff_eq
    (Option.isNone_iff_eq_none.trans (List.find?_eq_none.trans (forall_congr' fun g =>
      (imp_iff_right (List.mem_finRange g)).trans not_and_iff)))))

theorem passiveInForce_pair (h : pairOf u.tables k ≠ none) : passiveInForce u k = 0 := if_pos (Option.isSome_iff_ne_none.mpr h)

/-- The value of a passive record that is no pair member, by the group that decides it (R171). -/
def passiveBy (u : State) (k : Fin 64) : Option (Fin 8) → Nat
  | some g => (overrideFor (u.tables.groups.get g) k).getD (passiveOf (outputOf u k))
  | none => passiveOf (outputOf u k)

theorem passiveInForce_single {d : Option (Fin 8)} (h : pairOf u.tables k = none) (hd : tripDecides u k = d) :
    passiveInForce u k = passiveBy u k d :=
  (if_neg fun hs => Option.isSome_iff_ne_none.mp hs h).trans (congrArg (passiveBy u k) hd)

theorem ownPassive_eq : ownPassive u k = if pairOf u.tables k = none then passiveOf (outputOf u k) else 0 := by
  unfold ownPassive
  rcases pairOf u.tables k <;> rfl

/-- The value under the rate limit, the limit said as it stands in the entry. -/
def limitedBy (u : State) (k : Fin 64) : Option Nat → Mover
  | none => { value := scaledSource u k, acc := (u.otu.records.get k).acc, dir := (u.otu.records.get k).dir }
  | some v =>
    if (outputOf u k).rateLimit = 0 then
      { value := scaledSource u k, acc := (u.otu.records.get k).acc, dir := (u.otu.records.get k).dir }
    else
      ({ value := v, acc := (u.otu.records.get k).acc, dir := (u.otu.records.get k).dir } : Mover).toward
        (scaledSource u k) ((outputOf u k).rateLimit.toNat * u.rgi.advance) 1000

theorem limitedFrom_eq (o : Option Nat) : limitedFrom u k o = limitedBy u k o := by
  rcases o
  case none => rfl
  case some v => exact if_congr (@BitVec.toNat_inj 16 _ 0) rfl rfl

/-! ## The pair rule (R166 to R168) -/

theorem rowOf_free (h : pairWaits u k = false) : rowOf u k = (upperRow u k).getD .limited :=
  congrArg (Option.getD _) (if_neg (Bool.eq_false_iff.mp h))

theorem waits_split {d a d' a' z : Bool} : (d && !a && (d && !a && d' && !a' || !z)) = true ↔
    d = true ∧ ¬ a = true ∧ (d' = true ∧ ¬ a' = true ∨ ¬ z = true) := by
  revert d a d' a' z; decide

/-- What holds a member back behind its partner. -/
def heldBack (u : State) (k : Fin 64) (q : Fin 16) (m : Fin 64) : Prop :=
  demanded u k = true ∧ ¬ wasActive u k = true ∧ (demanded u m = true ∧ ¬ wasActive u m = true ∨ ¬ zeroForInterval u q m = true)

theorem waitsIn_iff (o : Option (Fin 16 × Fin 64)) : waitsIn u k o = true ↔ ∃ x, o = some x ∧ heldBack u k x.1 x.2 := by
  rcases o
  case none => exact iff_of_false Bool.false_ne_true not_exists_none_eq
  case some x => exact waits_split.trans (exists_some_eq (P := fun x : Fin 16 × Fin 64 => heldBack u k x.1 x.2)).symm

theorem pairWaits_iff : pairWaits u k = true ↔ ∃ q m, pairOf u.tables k = some (q, m) ∧ heldBack u k q m :=
  (waitsIn_iff _).trans Prod.exists

theorem not_pairWaits (h : ¬ (demanded u k = true ∧ ¬ wasActive u k = true)) : pairWaits u k = false :=
  Bool.eq_false_iff.mpr fun hw => h ((pairWaits_iff.mp hw).elim fun _ h => h.elim fun _ h => ⟨h.2.1, h.2.2.1⟩)

theorem zeroAfter_eq {w : Nat} : zeroAfter u k w = if w = rawZero u k then
    some (if u.otu.firstWork then u.rgi.runTime else (u.otu.records.get k).zeroSince.getD u.rgi.runTime) else none :=
  congrArg (fun b => if w = rawZero u k then some b else none) (apply_ite (Option.getD · _) _ _ _)

theorem exists_ite_some {α : Type} {p : Prop} [Decidable p] {b : α} {P : α → Prop} :
    (∃ z, (if p then some b else none) = some z ∧ P z) ↔ p ∧ P b := by
  by_cases hp : p
  · rw [if_pos hp, and_iff_right hp]
    exact exists_some_eq
  · rw [if_neg hp]
    exact iff_of_false not_exists_none_eq fun h => hp h.1

theorem zeroForInterval_iff (h : pairWaits u m = false) : zeroForInterval u q m = true ↔
    ∃ z, zeroAfter u m (rowMover u m (rowOf u m)).value = some z ∧ intervalOf (u.tables.pairs.get q) ≤ u.rgi.runTime - z := by
  rw [rowOf_free h]
  exact (Bool.and_eq_true_iff.trans (and_congr beq_iff_eq decide_eq_true_iff)).trans
    (exists_ite_some (P := fun z => intervalOf _ ≤ u.rgi.runTime - z)).symm

theorem conflict_split {d d' a a' x : Bool} (hd : d = true) (hd' : d' = true) :
    (d && !a && d' && !a' && x) = true ↔ ¬ a = true ∧ ¬ a' = true ∧ x = true := by
  subst hd hd'
  revert a a' x; decide

/-- The condition of a conflict, its parts said otherwise. -/
theorem conflict_iff {i d d' c a a' x x' : Bool} {D D' A A' X X' : Prop} (hd : d = true ↔ D) (hd' : d' = true ↔ D')
    (ha : a = true ↔ A) (ha' : a' = true ↔ A') (hx : x = true ↔ X) (hx' : x' = true ↔ X') :
    (i && d && d' && (c || (d && !a && d' && !a' && (x || x')))) = true ↔
      i = true ∧ D ∧ D' ∧ (c = true ∨ ¬ A ∧ ¬ A' ∧ (X ∨ X')) :=
  and_four.trans <| and_congr_right fun _ =>
    (and_congr_right fun h => and_congr_right fun h' => Bool.or_eq_true_iff.trans (or_congr_right
      ((conflict_split h h').trans (and_congr (not_congr ha) (and_congr (not_congr ha')
        (Bool.or_eq_true_iff.trans (or_congr hx hx'))))))).trans (and_congr hd (and_congr_left' hd'))

/-- What holds a member back, its parts said otherwise. -/
theorem waits_congr {d a d' a' z : Bool} {D A D' A' Z : Prop} (hd : d = true ↔ D) (ha : a = true ↔ A) (hd' : d' = true ↔ D')
    (ha' : a' = true ↔ A') (hz : ¬ (D' ∧ ¬ A') → (z = true ↔ Z)) :
    (d = true ∧ ¬ a = true ∧ (d' = true ∧ ¬ a' = true ∨ ¬ z = true)) ↔ D ∧ ¬ A ∧ (D' ∧ ¬ A' ∨ ¬ Z) :=
  and_congr hd (and_congr (not_congr ha) ((or_congr_left (and_congr hd' (not_congr ha'))).trans
    (or_congr_right' fun h => not_congr (hz h))))

/-! ## The window (R161) -/

/-- Whether a record writes a slot. -/
def writesSlot (u : State) (n k : Fin 64) : Bool := hasSource (outputOf u k) && (outputOf u k).window.toNat == n.val

theorem writesSlot_iff {n : Fin 64} : writesSlot u n k = true ↔ (outputOf u k).source ≠ 0 ∧ (outputOf u k).window.toNat = n.val :=
  Bool.and_eq_true_iff.trans (and_congr bne_iff_ne beq_iff_eq)

/-- A slot of the window, by the record that writes it. -/
def slotFrom (u : State) (pub : Vector OutPub 64) : Option (Fin 64) → WindowSlot
  | some k => { raw := slotValue (outputOf u k) (pub.get k).written, valid := true }
  | none => slotUnused

theorem windowOf_of {pub : Vector OutPub 64} {n : Fin 64} {o : Option (Fin 64)} (h : (List.finRange 64).find? (writesSlot u n) = o) :
    (windowOf u pub).get n = slotFrom u pub o := (tabulate_get _ n).trans (congrArg (slotFrom u pub) h)

end

/-! ## The work, with what its trip evaluation leaves of entries and groups -/

theorem otuAfter_groups (u : State) : (otuAfter u).groups = u.otu.groups := by
  unfold otuAfter
  rfl

theorem otuAfter_window (u : State) : (otuAfter u).window = windowOf u (otuAfter u).pub := by
  unfold otuAfter
  rfl

/-- A state with its trip entries and groups replaced; the rest of what a record is written from stands. -/
def withTrips (s : State) (trips : Vector TripWork 32) (groups : Vector TripGroup 8) : State :=
  s.withOtu { s.otu with trips := trips, groups := groups }

/-- A record demanded, and active, before the work. -/
def DemandedIn (s : State) (k : Fin 64) : Prop := 0 < sourceOf s k
def ActiveIn (s : State) (k : Fin 64) : Prop := ∃ v, (s.otu.records.get k).last = some v ∧ rawZero s k < v

/-- The entries that a work's trip evaluation leaves. -/
def tripsOf (s : State) : Vector TripWork 32 := tabulate 32 (tripAfter s)

/-- A work writes the records in the state with its own entries and groups. -/
theorem otuWork_after {s : State} (hr : s.running = true) :
    (otuWork s).otu = otuAfter (withTrips s (tripsOf s) (otuWork s).otu.groups) :=
  (otuWork_otu hr).trans (congrArg (fun g => otuAfter (withTrips s (tripsOf s) g))
    ((congrArg Otu.groups (otuWork_otu hr)).trans (otuAfter_groups _)).symm)

section
variable {s : State} {trips : Vector TripWork 32} {o : Otu} {k : Fin 64}

section
variable {groups : Vector TripGroup 8}

theorem demanded_withTrips : demanded (withTrips s trips groups) k = true ↔ DemandedIn s k := decide_eq_true_iff
theorem active_withTrips : wasActive (withTrips s trips groups) k = true ↔ ActiveIn s k := wasActive_iff _ _

end

theorem row_normal (hn : ¬ (s.otu.mode = .passive ∨ ∃ g, tripsRecord o.groups s.tables k g)) (hm : s.otu.mode = .normal) :
    rowOf (withTrips s trips o.groups) k = if pairWaits (withTrips s trips o.groups) k then .pairZero else .limited :=
  rowOf_upper (upperRow_none (u := withTrips s trips o.groups) hn hm)

variable (ho : o = otuAfter (withTrips s trips o.groups))
include ho

theorem after_pubGroups (g : Fin 8) : o.pubGroups.get g = (o.groups.get g).tripped :=
  (congrArg (fun x : Otu => x.pubGroups.get g) ho).trans (tabulate_get _ g)

theorem after_window : o.window = windowOf (withTrips s trips o.groups) o.pub :=
  (congrArg Otu.window ho).trans ((otuAfter_window _).trans (congrArg (windowOf _) (congrArg Otu.pub ho).symm))

theorem after_slot {n : Fin 64} (hk : writesSlot s n k = true) (hj : ∀ j < k, ¬ writesSlot s n j = true) :
    o.window.get n = { raw := slotValue (outputOf s k) (o.pub.get k).written, valid := true } :=
  (congrArg (Vector.get · n) (after_window ho)).trans
    (windowOf_of (find_finRange_eq_some hk fun j hlt => Bool.eq_false_iff.mpr (hj j hlt)))
theorem after_unused {n : Fin 64} (h : ∀ j, ¬ writesSlot s n j = true) : o.window.get n = slotUnused :=
  (congrArg (Vector.get · n) (after_window ho)).trans (windowOf_of (find_finRange_eq_none h))

theorem after_conflict (q : Fin 16) : o.conflict.get q = true ↔
    yes (s.tables.pairs.get q).inUse = true ∧ DemandedIn s (memberA s q) ∧ DemandedIn s (memberB s q) ∧
      (s.otu.conflict.get q = true ∨ ¬ ActiveIn s (memberA s q) ∧ ¬ ActiveIn s (memberB s q) ∧
        (Undecided s o.groups (memberA s q) ∨ Undecided s o.groups (memberB s q))) :=
  (iff_of_eq (congrArg (· = true) ((congrArg (fun x : Otu => x.conflict.get q) ho).trans (tabulate_get _ q)))).trans
    (conflict_iff demanded_withTrips demanded_withTrips active_withTrips active_withTrips upperRow_isNone upperRow_isNone)

variable (hs : (s.tables.outputs.get k).source ≠ 0)
include hs

theorem after_entry :
    o.records.get k = (recordByRow (withTrips s trips o.groups) k (rowOf (withTrips s trips o.groups) k)).1 :=
  (congrArg (fun x : Otu => x.records.get k) ho).trans ((otuAfter_record _ k).trans (congrArg Prod.fst
    (recordAfter_source (u := withTrips s trips o.groups) (bne_iff_ne.mpr hs))))
theorem after_output :
    o.pub.get k = (recordByRow (withTrips s trips o.groups) k (rowOf (withTrips s trips o.groups) k)).2 :=
  (congrArg (fun x : Otu => x.pub.get k) ho).trans ((otuAfter_pub _ k).trans (congrArg Prod.snd
    (recordAfter_source (u := withTrips s trips o.groups) (bne_iff_ne.mpr hs))))

section
variable {row : OutRow} (h : rowOf (withTrips s trips o.groups) k = row)
include h

theorem after_record : o.records.get k = (recordByRow (withTrips s trips o.groups) k row).1 :=
  (after_entry ho hs).trans (congrArg (fun r => (recordByRow (withTrips s trips o.groups) k r).1) h)
theorem after_pub : o.pub.get k = (recordByRow (withTrips s trips o.groups) k row).2 :=
  (after_output ho hs).trans (congrArg (fun r => (recordByRow (withTrips s trips o.groups) k r).2) h)

theorem after_written : (o.pub.get k).written = (rowMover (withTrips s trips o.groups) k row).value :=
  congrArg OutPub.written (after_pub ho hs h)
theorem after_rest : (o.records.get k).acc = (rowMover (withTrips s trips o.groups) k row).acc ∧
    (o.records.get k).dir = (rowMover (withTrips s trips o.groups) k row).dir :=
  ⟨congrArg OutRecord.acc (after_record ho hs h), congrArg OutRecord.dir (after_record ho hs h)⟩
theorem after_pending : (o.pub.get k).pending = (row == .pairZero) := congrArg OutPub.pending (after_pub ho hs h)

end

theorem after_last : (o.records.get k).last = some (o.pub.get k).written :=
  (congrArg OutRecord.last (after_entry ho hs)).trans (congrArg (fun x : OutPub => some x.written) (after_output ho hs).symm)
theorem after_source : (o.pub.get k).source = sourceOf s k := congrArg OutPub.source (after_output ho hs)
theorem after_back : (o.pub.get k).back = fromRaw (outputOf s k) (o.pub.get k).written :=
  (congrArg (fun x : OutPub => x.back = fromRaw (outputOf s k) x.written) (after_output ho hs)).mpr (Eq.refl (fromRaw _ _))

/-- The override mark of a record tells that a row other than the pair's writes another value than `v`. -/
def MarksOverride (v : Nat) (x : OutPub) : Prop := x.override = true ↔ x.pending = false ∧ x.written ≠ v

theorem after_override : MarksOverride (scaledSource s k) (o.pub.get k) :=
  (congrArg (MarksOverride (scaledSource s k)) (after_output ho hs)).mpr
    (Bool.and_eq_true_iff.trans (and_congr (iff_of_eq (Bool.not_eq_true' _)) bne_iff_ne))
theorem after_zeroSince : (o.records.get k).zeroSince = if (o.pub.get k).written = rawZero s k then
      some (if s.otu.firstWork then s.rgi.runTime else (s.otu.records.get k).zeroSince.getD s.rgi.runTime) else none :=
  (congrArg OutRecord.zeroSince (after_entry ho hs)).trans ((zeroAfter_eq (u := withTrips s trips o.groups) (k := k)).trans
    (congrArg (fun x : OutPub =>
    if x.written = rawZero s k then some (if s.otu.firstWork then s.rgi.runTime
      else (s.otu.records.get k).zeroSince.getD s.rgi.runTime) else none) (after_output ho hs).symm))

theorem after_forced (hrow : s.otu.mode = .passive ∨ ∃ g, tripsRecord o.groups s.tables k g) :
    (o.pub.get k).written = toRaw (outputOf s k) (passiveInForce (withTrips s trips o.groups) k) :=
  after_written ho hs (rowOf_upper (upperRow_passive hrow))
theorem after_forced_pair (hp : pairOf s.tables k ≠ none) (hrow : s.otu.mode = .passive ∨ ∃ g, tripsRecord o.groups s.tables k g) :
    (o.pub.get k).written = toRaw (outputOf s k) 0 :=
  (after_forced ho hs hrow).trans (congrArg (toRaw (outputOf s k)) (passiveInForce_pair hp))

section
variable (hp : pairOf s.tables k = none)
include hp

theorem after_forced_trip {g : Fin 8} (hg : tripsRecord o.groups s.tables k g) (hh : ∀ h < g, ¬ tripsRecord o.groups s.tables k h) :
    (o.pub.get k).written = toRaw (outputOf s k) ((overrideFor (s.tables.groups.get g) k).getD (passiveOf (outputOf s k))) :=
  (after_forced ho hs (.inr ⟨g, hg⟩)).trans
    (congrArg (toRaw (outputOf s k)) (passiveInForce_single (u := withTrips s trips o.groups) hp (tripDecides_first hg hh)))
theorem after_forced_own (hg : ∀ g, ¬ tripsRecord o.groups s.tables k g) (hm : s.otu.mode = .passive) :
    (o.pub.get k).written = toRaw (outputOf s k) (passiveOf (outputOf s k)) :=
  (after_forced ho hs (.inl hm)).trans (congrArg (toRaw (outputOf s k))
    (passiveInForce_single (u := withTrips s trips o.groups) hp (tripDecides_none hg)))

end

theorem after_passive (hrow : s.otu.mode = .passive ∨ ∃ g, tripsRecord o.groups s.tables k g) :
    (o.pub.get k).pending = false ∧ (o.records.get k).acc = 0 ∧ (o.records.get k).dir = .none :=
  ⟨after_pending ho hs (rowOf_upper (upperRow_passive hrow)), after_rest ho hs (rowOf_upper (upperRow_passive hrow))⟩

section
variable (hn : ¬ (s.otu.mode = .passive ∨ ∃ g, tripsRecord o.groups s.tables k g))
include hn

theorem after_hold_written (hm : s.otu.mode = .hold) : (o.pub.get k).written =
    (s.otu.records.get k).last.getD (toRaw (outputOf s k) (ownPassive s k)) :=
  after_written ho hs (rowOf_upper (upperRow_hold hn hm))

/-- What a HOLD writes (R162, log 15). -/
theorem after_hold (hm : s.otu.mode = .hold) : (o.pub.get k).pending = false ∧ (o.records.get k).acc = 0 ∧
    (o.records.get k).dir = .none ∧ (∀ v, (s.otu.records.get k).last = some v → (o.pub.get k).written = v) ∧
    ((s.otu.records.get k).last = none → (o.pub.get k).written =
      toRaw (outputOf s k) (if pairOf s.tables k = none then passiveOf (outputOf s k) else 0)) :=
  ⟨after_pending ho hs (rowOf_upper (upperRow_hold hn hm)),
    congrArg OutRecord.acc (after_record ho hs (rowOf_upper (upperRow_hold hn hm))),
    congrArg OutRecord.dir (after_record ho hs (rowOf_upper (upperRow_hold hn hm))),
    fun _ hv => (after_hold_written ho hs hn hm).trans (congrArg (Option.getD · _) hv),
    fun hv => (after_hold_written ho hs hn hm).trans ((congrArg (Option.getD · _) hv).trans (congrArg (toRaw _) ownPassive_eq))⟩

variable (hm : s.otu.mode = .normal)
include hm

theorem after_heldBack (hw : pairWaits (withTrips s trips o.groups) k = true) : (o.pub.get k).pending = true ∧
    (o.pub.get k).written = rawZero s k ∧ (o.records.get k).acc = 0 ∧ (o.records.get k).dir = .none :=
  ⟨after_pending ho hs ((row_normal hn hm).trans (if_pos hw)),
    after_written ho hs ((row_normal hn hm).trans (if_pos hw)),
    after_rest ho hs ((row_normal hn hm).trans (if_pos hw))⟩

theorem after_limited (hw : ¬ pairWaits (withTrips s trips o.groups) k = true) : (o.pub.get k).pending = false ∧
    (o.pub.get k).written = (limitedBy s k (s.otu.records.get k).last).value ∧
    (o.records.get k).acc = (limitedBy s k (s.otu.records.get k).last).acc ∧
    (o.records.get k).dir = (limitedBy s k (s.otu.records.get k).last).dir :=
  ⟨after_pending ho hs ((row_normal hn hm).trans (if_neg hw)),
    (congrArg (fun m : Mover => (o.pub.get k).written = m.value ∧ (o.records.get k).acc = m.acc ∧ (o.records.get k).dir = m.dir)
      (limitedFrom_eq (s.otu.records.get k).last)).mp
      ⟨after_written ho hs ((row_normal hn hm).trans (if_neg hw)),
        after_rest ho hs ((row_normal hn hm).trans (if_neg hw))⟩⟩

end

end

/-- The pair rule holds a record back, as the work leaves its partner. -/
theorem after_waits {s : State} {trips : Vector TripWork 32} {o : Otu} {k : Fin 64}
    (ho : o = otuAfter (withTrips s trips o.groups))
    (hsource : ∀ q m, pairOf s.tables k = some (q, m) → (s.tables.outputs.get m).source ≠ 0) :
    pairWaits (withTrips s trips o.groups) k = true ↔ ∃ q m, pairOf s.tables k = some (q, m) ∧
      DemandedIn s k ∧ ¬ ActiveIn s k ∧
      (DemandedIn s m ∧ ¬ ActiveIn s m ∨ ¬ ∃ z, (o.records.get m).zeroSince = some z ∧
        intervalOf (s.tables.pairs.get q) ≤ s.rgi.runTime - z) :=
  pairWaits_iff.trans (exists_congr fun q => exists_congr fun m => and_congr_right fun hp =>
    waits_congr demanded_withTrips active_withTrips demanded_withTrips active_withTrips fun hm =>
      (zeroForInterval_iff (not_pairWaits fun h => hm (h.imp demanded_withTrips.mp (not_congr active_withTrips).mp))).trans
        (iff_of_eq (congrArg (fun r : OutRecord => ∃ z, r.zeroSince = some z ∧
          intervalOf (s.tables.pairs.get q) ≤ s.rgi.runTime - z) (after_entry ho (hsource q m hp)).symm)))

/-! ## O53 -/

theorem otuWork_window_config {s : State} (hr : s.running = false) :
    otuWork s = { s with otu := { s.otu with window := (otuWork s).otu.window } } ∧
      ∀ n : Fin 64, (otuWork s).otu.window.get n = { raw := 0, valid := false } :=
  (congrArg (fun t : State => t = { s with otu := { s.otu with window := t.otu.window } } ∧
    ∀ n : Fin 64, t.otu.window.get n = { raw := 0, valid := false }) (otuWork_config hr)).mpr ⟨rfl, fun n => replicate_get _ n⟩

/-- Settles O53: each record by the row that decides it, `rowOf`, in the state whose trips are evaluated. -/
theorem trippedAndPassiveOutputsAreWrittenPassive : Obligations.TrippedAndPassiveOutputsAreWrittenPassive := by
  unfold Obligations.TrippedAndPassiveOutputsAreWrittenPassive
  refine ⟨fun k s hr => ?_, fun k s hr hs => ?_, fun q s hr => after_conflict (otuWork_after hr) q, fun s hr =>
    otuWork_window_config hr, fun s => ⟨sourceValue_loop s, rfl, sourceValue_line s⟩,
    fun e k => ⟨overrideFor_none, fun m => overrideFor_first⟩⟩
  · intro t e w trips forced
    exact ⟨after_pubGroups (otuWork_after hr), fun hs => ⟨after_last (otuWork_after hr) hs, after_forced_pair (otuWork_after hr) hs,
        fun hp => ⟨fun _ => after_forced_trip (otuWork_after hr) hs hp, after_forced_own (otuWork_after hr) hs hp⟩,
        fun _ hw n hn => after_slot (otuWork_after hr) (writesSlot_iff.mpr ⟨hs, hn.symm⟩) fun j hj h =>
          hw j hj.ne (writesSlot_iff.mp h).1 (BitVec.eq_of_toNat_eq ((writesSlot_iff.mp h).2.trans hn))⟩,
      fun n hn => after_unused (otuWork_after hr) fun j h => (writesSlot_iff.mp h).elim (hn j)⟩
  · intro t e r y p source scaled tripped active demandedAt waits passive limited
    exact ⟨after_source (otuWork_after hr) hs, after_back (otuWork_after hr) hs, after_override (otuWork_after hr) hs,
      after_passive (otuWork_after hr) hs, after_hold (otuWork_after hr) hs, fun hp hm hsource =>
        ⟨fun hw => after_heldBack (otuWork_after hr) hs hp hm ((after_waits (otuWork_after hr) hsource).mpr hw),
          fun hw => after_limited (otuWork_after hr) hs hp hm (mt (after_waits (otuWork_after hr) hsource).mp hw)⟩,
      after_zeroSince (otuWork_after hr) hs⟩

end Machine
end Sys2Proof
end

section
/-! SUPPORT. Minute closes, and the placing of a frame in plant time (R111 to R114, R123, R128). -/

namespace Sys2Proof
namespace Machine

/-! ## Minutes closed one after another -/

/-- A minute close touches the slots and the feed reduction alone (R111, R122). -/
theorem closeMinute_frame {e : EmissionEntry} {minute : Nat} {m : MinuteSlot} {x z : EauLine}
    (h : z = { x with slots := z.slots, reduction := z.reduction }) :
    closeMinute e minute m z =
      { x with slots := (closeMinute e minute m z).slots, reduction := (closeMinute e minute m z).reduction } :=
  congrArg (fun w : EauLine =>
    { w with slots := (closeMinute e minute m z).slots, reduction := (closeMinute e minute m z).reduction }) h

theorem closeMinute_slot_same {e : EmissionEntry} {minute : Nat} {m : MinuteSlot} {x : EauLine} {j : Fin 30}
    (h : minute % 30 = j.val) :
    (closeMinute e minute m x).slots.get j = some m := by
  obtain rfl : (⟨minute % 30, Nat.mod_lt _ (by decide)⟩ : Fin 30) = j := Fin.ext h
  exact get_set_same x.slots ⟨minute % 30, _⟩ _
theorem closeMinute_slot_other {e : EmissionEntry} {minute : Nat} {m : MinuteSlot} {x : EauLine} {j : Fin 30}
    (h : minute % 30 ≠ j.val) :
    (closeMinute e minute m x).slots.get j = x.slots.get j :=
  get_set_other x.slots (i := ⟨minute % 30, Nat.mod_lt _ (by decide)⟩) (fun hj => h (congrArg Fin.val hj).symm) _

/-- The minutes after `first` closed with one result, `n` of them. -/
def closeMinutes (e : EmissionEntry) (first : Nat) (m : MinuteSlot) (n : Nat) (x : EauLine) : EauLine :=
  (List.range n).foldl (fun z j => closeMinute e (first + 1 + j) m z) x

theorem closeMinutes_frame {e : EmissionEntry} {first n : Nat} {m : MinuteSlot} {x y : EauLine}
    (h : y = { x with slots := y.slots, reduction := y.reduction }) :
    closeMinutes e first m n y =
      { x with slots := (closeMinutes e first m n y).slots, reduction := (closeMinutes e first m n y).reduction } :=
  List.foldlRecOn (motive := fun z : EauLine => z = { x with slots := z.slots, reduction := z.reduction }) _ _ h
    fun _ hz _ _ => closeMinute_frame hz

theorem closeMinutes_slot_other {e : EmissionEntry} {first n : Nat} {m : MinuteSlot} {x : EauLine} {j : Fin 30}
    (h : ∀ i < n, (first + 1 + i) % 30 ≠ j.val) : (closeMinutes e first m n x).slots.get j = x.slots.get j :=
  List.foldlRecOn (motive := fun z : EauLine => z.slots.get j = x.slots.get j) _ _ rfl
    fun _ hz i hi => (closeMinute_slot_other (h i (List.mem_range.mp hi))).trans hz

theorem closeMinutes_succ {e : EmissionEntry} {first n : Nat} {m : MinuteSlot} {x : EauLine} :
    closeMinutes e first m (n + 1) x = closeMinute e (first + 1 + n) m (closeMinutes e first m n x) := by
  unfold closeMinutes
  rw [List.range_succ, List.foldl_append]
  rfl

theorem closeMinutes_slot_same {e : EmissionEntry} {first n i : Nat} {m : MinuteSlot} {x : EauLine} {j : Fin 30} (hi : i < n)
    (h : (first + 1 + i) % 30 = j.val) : (closeMinutes e first m n x).slots.get j = some m := by
  induction n with
  | zero => exact absurd hi (Nat.not_lt_zero _)
  | succ n ih =>
    rw [closeMinutes_succ]
    by_cases hn : (first + 1 + n) % 30 = j.val
    · exact closeMinute_slot_same hn
    · exact (closeMinute_slot_other hn).trans (ih (Nat.lt_of_le_of_ne (Nat.le_of_lt_succ hi) fun hin => hn (hin ▸ h)))

/-! ## Minutes inside one half-hour -/

/-- The minutes after `m` up to `m + 1 + n` stand in the slots after that of `m`. -/
theorem slot_within {m n i : Nat} (h : (m + 1 + n) / 30 = m / 30) (hi : i ≤ n) : (m + 1 + i) % 30 = m % 30 + (i + 1) :=
  have hq : (m + 1 + i) / 30 = m / 30 := Nat.le_antisymm ((Nat.div_le_div_right (Nat.add_le_add_left hi _)).trans_eq h)
    (Nat.div_le_div_right ((Nat.le_succ m).trans (Nat.le_add_right _ _)))
  Nat.add_left_cancel (n := 30 * (m / 30)) <|
    calc 30 * (m / 30) + (m + 1 + i) % 30
      _ = m + 1 + i := (congrArg (30 * · + (m + 1 + i) % 30) hq.symm).trans (Nat.div_add_mod _ _)
      _ = m + (i + 1) := Nat.succ_add m i
      _ = 30 * (m / 30) + m % 30 + (i + 1) := (congrArg (· + (i + 1)) (Nat.div_add_mod m 30)).symm
      _ = 30 * (m / 30) + (m % 30 + (i + 1)) := Nat.add_assoc _ _ _

theorem mod_day_ne_zero {k : Nat} (h : k % 30 ≠ 0) : k % 1440 ≠ 0 := fun h0 =>
  h ((Nat.mod_mod_of_dvd k ⟨48, rfl⟩).symm.trans (congrArg (· % 30) h0))

theorem beginPeriods_within {b : Bank} {l : Line} {minute : Nat} {x : EauLine} (h : minute % 30 ≠ 0) :
    beginPeriods b l minute x = x := (if_neg (mod_day_ne_zero h)).trans (if_neg h)
theorem endMinute_within {s : State} {l : Line} {first minute : Nat} {p : Placing} (h : (minute + 1) % 30 ≠ 0) :
    endMinute s l first minute p = p := (if_neg (mod_day_ne_zero h)).trans (if_neg h)

/-- A line placed with nothing recorded and nothing raised. -/
def placed (x : EauLine) : Placing := { line := x, halves := 0, days := 0, events := [] }
/-- What a minute passed over leaves of a line (R113). -/
def skippedOf (s : State) (l : Line) : MinuteSlot := skippedSlot (s.lsv.get l).pub.operating

theorem skipMinute_within {s : State} {l : Line} {first minute : Nat} {x : EauLine} (h : minute % 30 ≠ 0)
    (hs : (minute + 1) % 30 ≠ 0) :
    skipMinute s l first minute (placed x) = placed (closeMinute (emissionOf s l) minute (skippedOf s l) x) :=
  (endMinute_within hs).trans
    (congrArg (fun y => placed (closeMinute (emissionOf s l) minute (skippedOf s l) y)) (beginPeriods_within h))

theorem skipMinutes_within {s : State} {l : Line} {first n k total : Nat} {x : EauLine} (hn : k + n = total)
    (h : ∀ i ≤ total, (first + 1 + i) % 30 ≠ 0) :
    skipMinutes s l first n (first + 1 + k) (placed (closeMinutes (emissionOf s l) first (skippedOf s l) k x)) =
      placed (closeMinutes (emissionOf s l) first (skippedOf s l) total x) := by
  induction n generalizing k with
  | zero => exact hn ▸ rfl
  | succ n ih =>
    have hk : k + 1 ≤ total := hn ▸ Nat.add_le_add_left (Nat.le_add_left 1 n) k
    exact (congrArg (skipMinutes s l first n (first + 1 + (k + 1)))
      ((skipMinute_within (h k (Nat.le_of_lt hk)) (h (k + 1) hk)).trans (congrArg placed closeMinutes_succ.symm))).trans
      (ih ((Nat.succ_add_eq_add_succ k n).trans hn))

/-! ## One line placed in a frame's minute (R112) -/

/-- What placing makes of a line, from the placing that the minutes passed over have left. -/
def opened (s : State) (l : Line) (minute : Nat) (p : Placing) : EauLine × List Event :=
  (openMinute minute (beginPeriods s.tables l minute p.line), p.events)

/-- Placing with the open minute given, R112's case table. -/
def placeFrom (s : State) (l : Line) (minute : Nat) (x : EauLine) : Option Nat → EauLine × List Event
  | none => (openMinute minute { x with
      slots := tabulate 30 fun i => if i.val < minute % 30 then some (skippedSlot false) else none }, [])
  | some first =>
    if minute ≤ first then (x, [])
    else opened s l minute (skipMinutes s l first (minute - first - 1) (first + 1) (endMinute s l first first
      (placed (closeMinute (emissionOf s l) first (closedSlot x) x))))

theorem placeLine_of {s : State} {l : Line} {minute : Nat} {x : EauLine} {o : Option Nat} (h : x.openMinute = o) :
    placeLine s l minute x = placeFrom s l minute x o := congrArg (placeFrom s l minute x) h

theorem placeLine_late {s : State} {l : Line} {minute first : Nat} {x : EauLine} (h : x.openMinute = some first)
    (hm : minute ≤ first) : placeLine s l minute x = (x, []) := (placeLine_of h).trans (if_pos hm)

theorem placeLine_within {s : State} {l : Line} {minute m n : Nat} {x : EauLine} (h : x.openMinute = some m)
    (hm : minute = m + 1 + n) (hh : (m + 1 + n) / 30 = m / 30) : placeLine s l minute x = (openMinute (m + 1 + n)
      (closeMinutes (emissionOf s l) m (skippedOf s l) n (closeMinute (emissionOf s l) m (closedSlot x) x)), []) := by
  subst hm
  have hne : ∀ i ≤ n, (m + 1 + i) % 30 ≠ 0 := fun i hi h0 =>
    Nat.succ_ne_zero _ ((slot_within hh hi).symm.trans h0)
  have hn : m + 1 + n - m - 1 = n := (Nat.sub_sub _ m 1).trans (Nat.add_sub_cancel_left _ _)
  have hlt : ¬ m + 1 + n ≤ m := Nat.not_le.mpr ((Nat.lt_succ_self m).trans_le (Nat.le_add_right _ n))
  calc placeLine s l (m + 1 + n) x
    _ = opened s l (m + 1 + n) (skipMinutes s l m (m + 1 + n - m - 1) (m + 1) (endMinute s l m m
          (placed (closeMinute (emissionOf s l) m (closedSlot x) x)))) := (placeLine_of h).trans (if_neg hlt)
    _ = opened s l (m + 1 + n) (placed
          (closeMinutes (emissionOf s l) m (skippedOf s l) n (closeMinute (emissionOf s l) m (closedSlot x) x))) :=
        (congrArg₂ (fun i p => opened s l (m + 1 + n) (skipMinutes s l m i (m + 1) p)) hn
          (endMinute_within (hne 0 (Nat.zero_le n)))).trans
        (congrArg (opened s l (m + 1 + n)) (skipMinutes_within (k := 0) (Nat.zero_add n) hne))
    _ = _ := congrArg (fun y => (openMinute (m + 1 + n) y, [])) (beginPeriods_within (hne n (Nat.le_refl n)))

/-! ## Both lines placed, and what is published -/

theorem publishEmissions_line {s : State} {l : Line} :
    (publishEmissions s).eau.lines.get l = publishEau s l (s.eau.lines.get l) := by
  rcases l <;> rfl
theorem sampleBoth_line {s : State} {l : Line} : (sampleBoth s).eau.lines.get l = sampleLine s l := by
  rcases l <;> rfl
theorem placeFrame_line {t : PlantTime} {s : State} {l : Line} :
    (placeFrame t s).eau.lines.get l = (placeLine s l (plantMinute t) (s.eau.lines.get l)).1 := by
  rcases l <;> rfl

/-- The event of the step from the last plant time, where there is one. -/
def jumpFrom (s : State) (now : Nat) : Option Nat → List Event
  | some last => timeJump s last now
  | none => []

/-- Where the placing of the lines raises nothing, the queue takes the event of the step alone. -/
theorem placeFrame_queue {t : PlantTime} {s : State} {o : Option Nat} (ho : s.eau.lastPlant = o)
    (h : ∀ l : Line, (placeLine s l (plantMinute t) (s.eau.lines.get l)).2 = []) :
    (placeFrame t s).rgi = (jumpFrom s (plantMs t) o).foldl enqueue s.rgi :=
  ho ▸ (congrArg₂ (fun a b => (jumpFrom s (plantMs t) s.eau.lastPlant ++ a ++ b).foldl enqueue s.rgi) (h .one) (h .two)).trans
    (congrArg (List.foldl enqueue s.rgi) ((List.append_nil _).trans (List.append_nil _)))

/-- A step that is not back raises TIME_JUMP where it is above 5 s (R113). -/
theorem jumpFrom_forward {s : State} {last now : Nat} (h : last ≤ now) :
    (jumpFrom s now (some last)).foldl enqueue s.rgi =
      if last + 5000 < now then enqueue s.rgi (eventNow s .timeJump false 0 (detail2 1 (min 255 ((now - last) / 60000))))
      else s.rgi :=
  (congrArg (List.foldl enqueue s.rgi) (if_neg (Nat.not_lt.mpr h))).trans (apply_ite (List.foldl enqueue s.rgi) _ _ _)
theorem jumpFrom_back {s : State} {last now : Nat} (h : now < last) :
    (jumpFrom s now (some last)).foldl enqueue s.rgi =
      enqueue s.rgi (eventNow s .timeJump false 0 (detail2 2 (min 255 ((last - now) / 60000)))) :=
  congrArg (List.foldl enqueue s.rgi) (if_pos h)

/-! ## The open minute closed inside its half-hour (R111) -/

theorem minuteStatus_notOperating {d : Bool} {a : MinuteAcc} :
    ((minuteStatus d a).status == .notOperating) = true ↔ d = false ∧ a.operating < a.nonOperating := by
  cases d with
  | true => exact iff_of_false Bool.noConfusion fun h => Bool.noConfusion h.1
  | false =>
    by_cases h : a.operating < a.nonOperating
    · exact iff_of_true (congrArg (fun r : StatusAvg => r.status == .notOperating) (if_pos h)) ⟨rfl, h⟩
    · exact iff_of_false (Eq.mpr_not (congrArg (fun r : StatusAvg => (r.status == .notOperating) = true) (if_neg h))
        (iteInduction (motive := fun r : StatusAvg => ¬ (r.status == .notOperating) = true) (fun _ => Bool.noConfusion)
          fun _ => Bool.noConfusion)) fun hn => h hn.2

section
variable {s : State} {l : Line} {m n : Nat} {x y : EauLine}
  (hy : y = publishEau s l (openMinute (m + 1 + n)
    (closeMinutes (emissionOf s l) m (skippedOf s l) n (closeMinute (emissionOf s l) m (closedSlot x) x))))
include hy

theorem minuteClosed_frame : y = { x with
    openMinute := some (m + 1 + n), discard := false, acc := y.acc, slots := y.slots, reduction := y.reduction,
    pub := { reduction := y.reduction, percent := reductionOf (s.tables.emission.get l), stop := x.stop } } := by
  subst hy
  exact congrArg (fun z => publishEau s l (openMinute (m + 1 + n) z)) (closeMinutes_frame (closeMinute_frame rfl))
theorem minuteClosed_acc (k : Fin 6) : y.acc.get k = { sum := 0, valid := 0, operating := 0, nonOperating := 0 } := by
  subst hy
  exact accEmpty_get k

theorem minuteClosed_slots (j : Fin 30) : y.slots.get j = (closeMinutes (emissionOf s l) m (skippedOf s l) n
    (closeMinute (emissionOf s l) m (closedSlot x) x)).slots.get j :=
  (congrArg (fun z : EauLine => z.slots.get j) hy :)

variable (hh : (m + 1 + n) / 30 = m / 30) {j : Fin 30}
include hh

theorem minuteClosed_other (hj : j.val < m % 30 ∨ m % 30 + n < j.val) : y.slots.get j = x.slots.get j := by
  have hne : ∀ i ≤ n, m % 30 + i ≠ j.val := fun i hi =>
    hj.elim (fun h => (h.trans_le (Nat.le_add_right _ i)).ne') fun h => ((Nat.add_le_add_left hi _).trans_lt h).ne
  exact (minuteClosed_slots hy j).trans ((closeMinutes_slot_other fun i hi =>
    (slot_within hh (Nat.le_of_lt hi)).symm ▸ hne (i + 1) hi).trans (closeMinute_slot_other (hne 0 (Nat.zero_le n))))

theorem minuteClosed_own (hj : j.val = m % 30) : y.slots.get j = some (closedSlot x) :=
  (minuteClosed_slots hy j).trans ((closeMinutes_slot_other fun i hi =>
    (slot_within hh (Nat.le_of_lt hi)).symm ▸ hj ▸ (Nat.lt_add_of_pos_right (Nat.succ_pos i)).ne').trans
      (closeMinute_slot_same hj.symm))

theorem minuteClosed_passed (hj : m % 30 < j.val) (hn : j.val ≤ m % 30 + n) : y.slots.get j = some (skippedOf s l) := by
  obtain ⟨i, hi⟩ := Nat.exists_eq_add_of_lt hj
  have hin : i < n := Nat.le_of_add_le_add_left (hi ▸ hn)
  exact (minuteClosed_slots hy j).trans (closeMinutes_slot_same hin ((slot_within hh (Nat.le_of_lt hin)).trans hi.symm))

end

/-! ## The commands and the work -/

theorem eauWork_run {s : State} (h : s.running = true) :
    eauWork s = publishEmissions (sampleBoth (placeFrame s.rgi.plant s)) := if_pos h

/-- Some line's open minute lies in an earlier period of the given length than the plant time. -/
def Passes (t : PlantTime) (s : State) (period : Nat) : Prop :=
  s.running = true ∧ ∃ (l : Line) (m : Nat), (s.eau.lines.get l).openMinute = some m ∧ m / period < plantMinute t / period

theorem passes_iff {t : PlantTime} {s : State} {period : Nat} :
    (s.running && periodPassed s period t) = true ↔ Passes t s period :=
  (iff_of_eq (Bool.and_eq_true _ _)).trans (and_congr_right' (List.any_eq_true.trans (exists_congr fun l =>
    (and_iff_right (by rcases l <;> decide)).trans (someAnd_iff (P := fun m => m / period < plantMinute t / period) _))))

theorem closePeriod_passes {t : PlantTime} {s : State} {period : Nat} (h : Passes t s period) :
    (.next (closePeriod period t s) : Host.Outcome State Fault Refusal) = .next (publishEmissions (placeFrame t s)) :=
  congrArg _ (if_pos (passes_iff.mpr h))
theorem closePeriod_idle {t : PlantTime} {s : State} {period : Nat} (h : ¬ Passes t s period) :
    (.next (closePeriod period t s) : Host.Outcome State Fault Refusal) = .next s := congrArg _ (if_neg (mt passes_iff.mp h))

theorem minuteClose_passes {t : PlantTime} {s : State} {m n : Nat} (h : s.running = true) (hm : plantMinute t = m + 1 + n)
    (ho : ∀ l : Line, (s.eau.lines.get l).openMinute = some m) : Passes t s 1 :=
  ⟨h, .one, m, ho .one, (Nat.div_one m).trans_lt (((Nat.lt_succ_self m).trans_le (Nat.le_add_right _ n)).trans_eq
    (hm.symm.trans (Nat.div_one _).symm))⟩

section
variable {t : PlantTime} {s : State}

theorem closed_line {m n : Nat} (hm : plantMinute t = m + 1 + n) (hh : (m + 1 + n) / 30 = m / 30)
    (ho : ∀ l : Line, (s.eau.lines.get l).openMinute = some m) (l : Line) :
    (publishEmissions (placeFrame t s)).eau.lines.get l = publishEau s l (openMinute (m + 1 + n)
      (closeMinutes (emissionOf s l) m (skippedOf s l) n
        (closeMinute (emissionOf s l) m (closedSlot (s.eau.lines.get l)) (s.eau.lines.get l)))) :=
  publishEmissions_line.trans (congrArg (publishEau s l)
    (placeFrame_line.trans (congrArg Prod.fst (placeLine_within (ho l) hm hh))))

theorem closed_queue {m n last : Nat} (hm : plantMinute t = m + 1 + n) (hh : (m + 1 + n) / 30 = m / 30)
    (ho : ∀ l : Line, (s.eau.lines.get l).openMinute = some m) (hl : s.eau.lastPlant = some last) (hle : last ≤ plantMs t) :
    (placeFrame t s).rgi = if last + 5000 < plantMs t then
        enqueue s.rgi (eventNow s .timeJump false 0 (detail2 1 (min 255 ((plantMs t - last) / 60000))))
      else s.rgi :=
  (placeFrame_queue hl fun l => congrArg Prod.snd (placeLine_within (ho l) hm hh)).trans (jumpFrom_forward hle)

theorem placeFrame_frame {q : Rgi} (h : (placeFrame t s).rgi = q) :
    placeFrame t s = { s with eau := (placeFrame t s).eau, rgi := q } :=
  congrArg (fun r => { s with eau := (placeFrame t s).eau, rgi := r }) h

theorem closed_frame {q : Rgi} (h : (placeFrame t s).rgi = q) : publishEmissions (placeFrame t s) =
    { s with eau := (publishEmissions (placeFrame t s)).eau, rgi := q } :=
  congrArg (fun r => { s with eau := (publishEmissions (placeFrame t s)).eau, rgi := r }) h

end

/-! ## A frame of the open minute or an earlier one, and the first -/

section
variable {t : PlantTime} {s : State} (h : ∀ l : Line, ∃ m, (s.eau.lines.get l).openMinute = some m ∧ plantMinute t ≤ m)
include h

theorem placeLine_of_late (l : Line) : placeLine s l (plantMinute t) (s.eau.lines.get l) = (s.eau.lines.get l, []) :=
  (h l).elim fun _ hm => placeLine_late hm.1 hm.2
theorem late_queue {o : Option Nat} (ho : s.eau.lastPlant = o) :
    (placeFrame t s).rgi = (jumpFrom s (plantMs t) o).foldl enqueue s.rgi :=
  placeFrame_queue ho fun l => congrArg Prod.snd (placeLine_of_late h l)
theorem late_line (l : Line) : (placeFrame t s).eau.lines.get l = s.eau.lines.get l :=
  placeFrame_line.trans (congrArg Prod.fst (placeLine_of_late h l))

end

section
variable {s u v : State} (hu : u = publishEmissions (sampleBoth v))
include hu

theorem worked_lastPlant : u.eau.lastPlant = v.eau.lastPlant := (congrArg (fun w : State => w.eau.lastPlant) hu :)
theorem worked_frame {q : Rgi} (hv : v = { s with eau := v.eau, rgi := q }) : u = { s with eau := u.eau, rgi := q } := by
  subst hu
  exact congrArg (fun w => { w with eau := (publishEmissions (sampleBoth v)).eau }) hv
theorem worked_line {l : Line} (hv : v.eau.lines.get l = s.eau.lines.get l) : u.eau.lines.get l = { s.eau.lines.get l with
    inst := (u.eau.lines.get l).inst, acc := (u.eau.lines.get l).acc, pub := (u.eau.lines.get l).pub } := by
  have hy := (congrArg (fun w : State => w.eau.lines.get l) hu).trans
    (publishEmissions_line.trans (congrArg (publishEau v l) sampleBoth_line))
  generalize u.eau.lines.get l = y at hy
  subst hy
  exact congrArg (fun x => { x with
    inst := (sampleLine v l).inst, acc := (sampleLine v l).acc, pub := (publishEau v l (sampleLine v l)).pub }) hv

end

section
variable {minute : Nat} {x y : EauLine} (hy : y = openMinute minute { x with
  slots := tabulate 30 fun i => if i.val < minute % 30 then some (skippedSlot false) else none })
include hy

theorem first_frame : y = { x with openMinute := some minute, discard := false, acc := y.acc, slots := y.slots } := by
  subst hy
  rfl
theorem first_acc (k : Fin 6) : y.acc.get k = { sum := 0, valid := 0, operating := 0, nonOperating := 0 } :=
  (congrArg (fun z : EauLine => z.acc.get k) hy).trans (accEmpty_get k)
theorem first_slots (j : Fin 30) : y.slots.get j = if j.val < minute % 30 then some (skippedSlot false) else none :=
  (congrArg (fun z : EauLine => z.slots.get j) hy).trans (tabulate_get _ j)

end

theorem first_line {t : PlantTime} {s : State} {l : Line} (h : (s.eau.lines.get l).openMinute = none) :
    (placeFrame t s).eau.lines.get l = openMinute (plantMinute t) { s.eau.lines.get l with
      slots := tabulate 30 fun i => if i.val < plantMinute t % 30 then some (skippedSlot false) else none } :=
  placeFrame_line.trans (congrArg Prod.fst (placeLine_of h))

/-- Settles O35: the minutes passed over are those of a fold of minute closes, whose slots follow the open minute's in one
half-hour. -/
theorem minuteCloseStoresAndOpens : Obligations.MinuteCloseStoresAndOpens := by
  unfold Obligations.MinuteCloseStoresAndOpens
  refine ⟨?_, ?_, ?_, ?_, ?_⟩
  · intro t m n last s hr hm hh hl hle ho skipped
    refine ⟨publishEmissions (placeFrame t s), closePeriod_passes (minuteClose_passes hr hm ho),
      closed_frame (closed_queue hm hh ho hl hle), rfl, ?_⟩
    intro l x y
    exact ⟨minuteClosed_frame (closed_line hm hh ho l), minuteClosed_acc (closed_line hm hh ho l),
      fun _ => minuteClosed_other (closed_line hm hh ho l) hh, fun _ => minuteClosed_passed (closed_line hm hh ho l) hh,
      closedSlot x, rfl, fun _ => minuteClosed_own (closed_line hm hh ho l) hh,
      (congrArg EauLine.reduction (closed_line hm hh ho l) :), minuteStatus_notOperating, tabulate_get _⟩
  · intro last s hr hl hlt ho u
    exact ⟨worked_frame (eauWork_run hr) (placeFrame_frame ((late_queue ho hl).trans (jumpFrom_back hlt))),
      worked_lastPlant (eauWork_run hr), fun l => worked_line (eauWork_run hr) (late_line ho l)⟩
  · intro t s now u
    refine ⟨rfl, rfl, fun hn ho => placeFrame_queue hn fun l => congrArg Prod.snd (placeLine_of (ho l)),
      fun last hl hle ho => (late_queue ho hl).trans (jumpFrom_forward hle), ?_⟩
    intro l x y
    exact ⟨fun h => ⟨first_frame (first_line h), first_acc (first_line h), first_slots (first_line h)⟩,
      fun _ h hm => placeFrame_line.trans (congrArg Prod.fst (placeLine_late h hm))⟩
  · intro t s passes closed
    exact ⟨closePeriod_passes, closePeriod_idle, closePeriod_passes, closePeriod_idle, closePeriod_passes, closePeriod_idle⟩
  · intro s u
    exact ⟨rfl, rfl, fun l => publishEmissions_line⟩

end Machine
end Sys2Proof
end
